-- ==== Sys2Proof/Word.lean ====
section
/-! DEFINITION. The two widths of the hardware (rule R8 of 00_scope.md): `u8` and `u16`. -/

namespace Sys2Proof

/-- R8: `u8`, every register and memory cell but PC and the VRAM pointer; wraps modulo 256. -/
abbrev Byte := BitVec 8

/-- R8: `u16`, PC, the VRAM pointer and every CPU address; wraps modulo 65536. -/
abbrev Word := BitVec 16

end Sys2Proof
end

