-- ==== Sys2Proof/Machine/Bits.lean ====
section
/-! DEFINITION. Bit-field, extension and byte-order helpers (rules R7, R8, R76 of 00_scope.md and
20_memory.md). -/

namespace Sys2Proof.Machine

/-- R7: `Word(lo, hi) = hi ++ lo`, little-endian in memory (R76). -/
def word (lo hi : Byte) : Word := hi ++ lo

/-- R7: `w[7:0]`. -/
def lowByte (w : Word) : Byte := w.extractLsb' 0 8

/-- R7: `w[15:8]`. -/
def highByte (w : Word) : Byte := w.extractLsb' 8 8

/-- R8: `zext_16`. -/
def zext16 (b : Byte) : Word := b.setWidth 16

/-- R8: `sext_16`. -/
def sext16 (b : Byte) : Word := b.signExtend 16

end Sys2Proof.Machine
end

