-- ==== Sys2Proof/Config.lean ====
section
/-! DEFINITION. What an implementation fixes (the parameter table, rule R6 of 00_scope.md) and the
free values: draws and open parameters, given as constants with no body, so that no proof can
know them. -/

namespace Sys2Proof

/-- R114, D3: what an undefined opcode byte does. -/
inductive IllegalOpcodePolicy where
  /-- The fatal `UnknownOpcode` (R372): the spec's choice. -/
  | fault
  /-- A one-byte no-operation: the spec's named alternative. -/
  | nop1
deriving DecidableEq, Repr

/-- R6, R114, D3: `IllegalOpcodePolicy = fault`. -/
def Config.illegalOpcodePolicy : IllegalOpcodePolicy := .fault

/-- R6, R66, D16: `RomWriteProtect = false`, a store to 0x8000 to 0xFFFF lands. -/
def Config.romWriteProtect : Bool := false

/-- R6, R62: `PROGRAM_ROM_BASE`. -/
def Config.programRomBase : Nat := 0x8000

/-- R6, R62: the first address of `PPU_REG_WINDOW`. -/
def Config.ppuRegWindow : Nat := 0x2000

/-- R6, R63, D16: `PPU_REG_MIRROR_END`, the last mirror of the window. -/
def Config.ppuRegMirrorEnd : Nat := 0x3FFF

/-- R6, R63: `CONTROLLER_PORT`. -/
def Config.controllerPort : Nat := 0x4016

/-- R60, R61: 65536 bytes of CPU memory. -/
def Config.cpuMemBytes : Nat := 65536

/-- R6, R71: `PPU_MEM_BYTES`. -/
def Config.ppuMemBytes : Nat := 16384

/-- R6, R74: `OAM_BYTES`. -/
def Config.oamBytes : Nat := 256

/-- R6, R330, D24: `FRAME_WIDTH`. -/
def Config.frameWidth : Nat := 256

/-- R6, R330, D24: `FRAME_HEIGHT`. -/
def Config.frameHeight : Nat := 240

/-- R44: the number of sprite records. -/
def Config.spriteCount : Nat := 64

/-- R6, R412: `PRG_BANK_BYTES`. -/
def Config.prgBankBytes : Nat := 16384

/-- R6, R412: `CHR_BANK_BYTES`. -/
def Config.chrBankBytes : Nat := 8192

/-- R400, D14: `InitCpuMem`, `InitPpuMem` and `InitOam`, one byte for all three: what a byte that
neither the image nor a program has written reads as. -/
def Config.initByte : Byte := 0

/-- R401, D13: `ResetA`. -/
def Config.resetA : Byte := 0

/-- R401, D13: `ResetX`. -/
def Config.resetX : Byte := 0

/-- R401, D13: `ResetY`. -/
def Config.resetY : Byte := 0

/-- R38, R401, D13: `ResetS`. -/
def Config.resetS : Byte := 0xFD

/-- R28, R401, D13: `ResetP` (I and U set). -/
def Config.resetP : Byte := 0x24

/-- R49: the frame buffer, 240 rows of 256 system colour indices of 6 bits. -/
abbrev Frame := Vector (Vector (BitVec 6) 256) 240

/-- Free value (log entry 5). R275, D20: bits 4 to 0 of the status read that makes draw `n`. -/
opaque Config.statusLowBits : Nat → BitVec 5

/-- Free value (log entry 5). R284, D20: what a read of a write-only register gives at draw `n`. -/
opaque Config.writeOnlyRead : Nat → Byte

/-- Free value (log entry 6). R304, D30: the host's answer `Buttons()` at draw `n`; bit 0 is A, then
B, Select, Start, Up, Down, Left, Right (R302). -/
opaque Config.buttons : Nat → Byte

/-- Free value (log entry 1). R356, D29: the open `Schedule`: how many steps of the CPU stand, by draw
`n`, before the next step of the compositor. -/
opaque Config.cpuRun : Nat → Nat

/-- Free value (log entry 1). R356, D29: the CPU's weak fairness in the open `Schedule`: how many steps of the
compositor, by draw `n`, may pass before the CPU is due for a step at the latest. -/
opaque Config.compositorRun : Nat → Nat

/-- Free value (log entry 2). R421, D29: the open parameter `VBlankMinCpuSteps`. -/
opaque Config.vblankMinCpuSteps : Nat

/-- Free value (log entry 7). R49, R55: the frame buffer before the first `Render`, unspecified. -/
opaque Config.initialFrame : Frame

end Sys2Proof
end

