-- ==== Sys2Proof/Machine/Memory.lean ====
section
/-! DEFINITION. Memory as plain data: (address, byte) cells in one canonical form. The same type
holds the CPU memory (R61), the PPU memory (R71) and OAM (R74); the access rules of the three
address spaces stand in Machine/Ppu.lean and Machine/Ops.lean. -/

namespace Sys2Proof.Machine

/-- A byte array in which only the bytes that differ from `Config.initByte` are listed. -/
abbrev Memory := List Host.Cell

/-- What the byte at `a` reads as; an unlisted one reads as `Config.initByte` (R400, D14). -/
def memGet : Memory → Nat → Byte
  | [], _ => Config.initByte
  | (k, v) :: r, a => if k = a then v else memGet r a

/-- The cells of `m` but for the one at `a`. -/
def memErase (m : Memory) (a : Nat) : Memory := m.filter fun c => c.1 != a

/-- The cell (`a`, `v`) put before the first cell of a higher address. -/
def memInsert (a : Nat) (v : Byte) : Memory → Memory
  | [] => [(a, v)]
  | (k, u) :: r => if a < k then (a, v) :: (k, u) :: r else (k, u) :: memInsert a v r

/-- `m` with the byte at `a` made `v`; a byte that an unlisted address reads as is not listed. -/
def memSet (m : Memory) (a : Nat) (v : Byte) : Memory :=
  if v = Config.initByte then memErase m a else memInsert a v (memErase m a)

/-- The bytes of `bs` laid out from address `base` upward (the loader's copies, R413 to R415). -/
def memOfBytes : Nat → List Byte → Memory
  | _, [] => []
  | base, b :: bs =>
    if b = Config.initByte then memOfBytes (base + 1) bs else (base, b) :: memOfBytes (base + 1) bs

/-- Addresses from `lo` up to below `size`, strictly rising, no byte that need not be listed. -/
def memSorted (lo size : Nat) : Memory → Bool
  | [] => true
  | (k, v) :: r => decide (lo ≤ k) && decide (k < size) && v != Config.initByte && memSorted (k + 1) size r

/-- The canonical form of a memory of `size` bytes. -/
def Memory.wf (size : Nat) (m : Memory) : Bool := memSorted 0 size m

end Sys2Proof.Machine
end

