-- ==== Sys2Proof/Machine/State.lean ====
section
/-! DEFINITION. The state of the machine: every piece the spec gives it (10_state.md, tabulated in
rule R55), the four records of the model's own (the draw counter, the schedule's two numbers, the
frames handed to the host), and the state right after reset. -/

namespace Sys2Proof.Machine

/-- R39, R370: the record of a fatal CPU fault. -/
inductive CpuFault where
  /-- R372: the undefined opcode byte `op`, fetched from the address `pc`. -/
  | unknownOpcode (op : Byte) (pc : Word)
deriving DecidableEq, Repr

/-- R50, R354: where the compositor stands in its frame cycle. -/
inductive Phase where
  | idle
  | rendered
  | inVBlank
deriving DecidableEq, Repr

/-- R52, R411: the cartridge image's mirroring bit (0 horizontal, 1 vertical). -/
inductive Mirroring where
  | horizontal
  | vertical
deriving DecidableEq, Repr

/-- R271: the eight registers of the PPU window, by offset 0 to 7. -/
inductive PpuReg where
  | control
  | mask
  | status
  | oamAddr
  | oamData
  | scroll
  | vramAddr
  | vramData
deriving DecidableEq, Repr

/-- R63: what a CPU address reaches. -/
inductive AddrClass where
  | plain
  | ppuReg (r : PpuReg)
  | controller
deriving DecidableEq, Repr

/-- The agents that take steps of the machine (R16); the host takes none. -/
inductive Agent where
  | cpu
  | compositor
deriving DecidableEq, Repr

/-- Why the machine stops. No step of a running machine faults: `UnknownOpcode` is the CPU's own record
`halted` (R39), after which the compositor goes on stepping (R372). -/
inductive Fault where
  /-- Raised by `boot` (R373, R412): the cartridge image is malformed and the machine never starts. Safe:
  the spec gives the same stop. -/
  | romFormatError
deriving DecidableEq, Repr

/-- Why an instruction has no meaning in this model. -/
inductive Refusal where
  /-- Raised by an arm of `exec` whose instruction is not modelled yet; no arm does. Safe. -/
  | notModelled (mnemonic : String)
deriving DecidableEq, Repr

/-- The machine. -/
structure State where
  /-- R20: `A`. -/
  a : Byte
  /-- R21: `X`. -/
  x : Byte
  /-- R22: `Y`. -/
  y : Byte
  /-- R38: `S`; the stack cell is 0x0100 + S. -/
  sp : Byte
  /-- R28: `P`; bit 0 C, 1 Z, 2 I, 3 D, 4 B (constant 0, R33), 5 U (constant 1, R34), 6 V, 7 N. -/
  p : Byte
  /-- R25: `PC`, the address of the next opcode byte, and during an instruction of its own. -/
  pc : Word
  /-- R39: `HALTED`. -/
  halted : Option CpuFault
  /-- R53: `CPUMEM`. -/
  cpuMem : Memory
  /-- R48: `PPUMEM`, the palette RAM (R54) in it. -/
  ppuMem : Memory
  /-- R44: `OAM`. -/
  oam : Memory
  /-- R40: `PPUCTRL`. -/
  ppuctrl : Byte
  /-- R41: `PPUMASK`. -/
  ppumask : Byte
  /-- R42: `VBLANK`. -/
  vblank : Bool
  /-- R42: `SPR0HIT`. -/
  spr0hit : Bool
  /-- R42: `SPROVF`. -/
  sprovf : Bool
  /-- R43: `OAMADDR`. -/
  oamaddr : Byte
  /-- R45: `SCROLLX`. -/
  scrollx : Byte
  /-- R45: `SCROLLY`. -/
  scrolly : Byte
  /-- R46: `VADDR`. -/
  vaddr : Word
  /-- R47: `W`, true when the next write is the second of a pair. -/
  w : Bool
  /-- R49: `FRAMEBUF`, `framebuf[y][x]`. -/
  framebuf : Frame
  /-- R50: `PHASE`. -/
  phase : Phase
  /-- R51: `STROBE`. -/
  strobe : Bool
  /-- R51: `SHIFT`. -/
  shift : Byte
  /-- R52: `MIRRORING`. -/
  mirroring : Mirroring
  /-- The model's own (log entry 3): how many draws have been made; the next free value's number. -/
  draws : Nat
  /-- The model's own (log entry 1): CPU steps left before the next compositor step. -/
  cpuLeft : Nat
  /-- The model's own (log entry 1): compositor steps that may pass before the one after which the CPU must move. -/
  compositorLeft : Nat
  /-- The model's own (log entry 4): the frames presented to the host (R352), latest first. -/
  presented : List Frame
deriving DecidableEq, Repr

/-- What a step or an instruction answers. -/
abbrev Out := Host.Outcome State Fault Refusal

/-- R400 (5) to (7), R55: every register at its reset value over the given memories, PC from the reset
vector (R405). The schedule's first two numbers are draw 0 (log entry 1). -/
def State.powerOn (cpuMem ppuMem : Memory) (mirroring : Mirroring) : State where
  a := Config.resetA
  x := Config.resetX
  y := Config.resetY
  sp := Config.resetS
  p := Config.resetP
  pc := word (memGet cpuMem 0xFFFC) (memGet cpuMem 0xFFFD)
  halted := none
  cpuMem := cpuMem
  ppuMem := ppuMem
  oam := []
  ppuctrl := 0
  ppumask := 0
  vblank := false
  spr0hit := false
  sprovf := false
  oamaddr := 0
  scrollx := 0
  scrolly := 0
  vaddr := 0
  w := false
  framebuf := Config.initialFrame
  phase := .idle
  strobe := false
  shift := 0
  mirroring := mirroring
  draws := 1
  cpuLeft := Config.cpuRun 0
  compositorLeft := Config.compositorRun 0
  presented := []

/-- The machine right after reset with nothing loaded (log entry 8): memories at their initial
contents, so the reset vector reads 0x0000. `boot` gives the reset state of a cartridge image. -/
def State.reset : State := State.powerOn [] [] .horizontal

end Sys2Proof.Machine
end

