-- ==== Sys2Proof/Machine/Flags.lean ====
section
/-! DEFINITION. The status flags and every flag computation of the spec (10_state.md section 3 and the
instruction rules of 41 to 48), as pure functions of bytes. A function that yields a result and a new
status answers the pair (result, P). -/

namespace Sys2Proof.Machine

/-- R28: the bits of P. -/
inductive Flag where
  | c | z | i | d | b | u | v | n
deriving DecidableEq, Repr

/-- R28, D4: the position of a flag in P. -/
def flagBit : Flag → Nat
  | .c => 0
  | .z => 1
  | .i => 2
  | .d => 3
  | .b => 4
  | .u => 5
  | .v => 6
  | .n => 7

/-- R9, R28: `P.f` of a status byte. -/
def flagOf (f : Flag) (p : Byte) : Bool := p.getLsbD (flagBit f)

/-- The status byte with `P.f` made `x` and every other bit left. -/
def withFlag (f : Flag) (x : Bool) (p : Byte) : Byte :=
  if x then p ||| (1#8 <<< flagBit f) else p &&& ~~~(1#8 <<< flagBit f)

/-- R12: `SetZN(v)`. -/
def withZN (v : Byte) (p : Byte) : Byte := withFlag .n v.msb (withFlag .z (v == 0) p)

/-- R33, R34, D5: a pulled byte as P takes it: bit 4 is 0 and bit 5 is 1 whatever was pulled. -/
def loadedStatus (f : Byte) : Byte := (f &&& 0xCF) ||| 0x20

/-- R33, R34, D5: P as it is pushed: bits 4 and 5 set. -/
def pushedStatus (p : Byte) : Byte := p ||| 0x30

/-- R150: the 9-bit intermediate `a + m + carry`. -/
def addCarry (a m : Byte) (carry : Bool) : BitVec 9 :=
  a.setWidth 9 + m.setWidth 9 + (BitVec.ofBool carry).setWidth 9

/-- R150: ADC, binary whatever P.D holds (R32). -/
def adcByte (a m p : Byte) : Byte × Byte :=
  let t := addCarry a m (flagOf .c p)
  let r := t.setWidth 8
  let overflow := a.msb == m.msb && r.msb != a.msb
  (r, withZN r (withFlag .v overflow (withFlag .c t.msb p)))

/-- R151, D8: SBC, which is ADC of the complement. -/
def sbcByte (a m p : Byte) : Byte × Byte := adcByte a (m ^^^ 0xFF) p

/-- R153: AND. -/
def andByte (a m p : Byte) : Byte × Byte := (a &&& m, withZN (a &&& m) p)

/-- R154: ORA. -/
def oraByte (a m p : Byte) : Byte × Byte := (a ||| m, withZN (a ||| m) p)

/-- R155: EOR. -/
def eorByte (a m p : Byte) : Byte × Byte := (a ^^^ m, withZN (a ^^^ m) p)

/-- R160: ASL. -/
def aslByte (v p : Byte) : Byte × Byte :=
  let r := v <<< 1
  (r, withZN r (withFlag .c v.msb p))

/-- R161: LSR. -/
def lsrByte (v p : Byte) : Byte × Byte :=
  let r := v >>> 1
  (r, withZN r (withFlag .c (v.getLsbD 0) p))

/-- R162: ROL. -/
def rolByte (v p : Byte) : Byte × Byte :=
  let r := (v <<< 1) ||| (BitVec.ofBool (flagOf .c p)).setWidth 8
  (r, withZN r (withFlag .c v.msb p))

/-- R163: ROR. -/
def rorByte (v p : Byte) : Byte × Byte :=
  let r := (v >>> 1) ||| ((BitVec.ofBool (flagOf .c p)).setWidth 8 <<< 7)
  (r, withZN r (withFlag .c (v.getLsbD 0) p))

/-- R205, R207, R209: increment. -/
def incByte (v p : Byte) : Byte × Byte := (v + 1, withZN (v + 1) p)

/-- R206, R208, R210: decrement. -/
def decByte (v p : Byte) : Byte × Byte := (v - 1, withZN (v - 1) p)

/-- R203: the status after comparing the register value `r` with `m`. -/
def compareStatus (r m p : Byte) : Byte :=
  let t := addCarry r (m ^^^ 0xFF) true
  withZN (t.setWidth 8) (withFlag .c t.msb p)

/-- R256: the status after BIT. -/
def bitStatus (a m p : Byte) : Byte :=
  withFlag .v (m.getLsbD 6) (withFlag .n (m.getLsbD 7) (withFlag .z (a &&& m == 0) p))

end Sys2Proof.Machine
end

