-- ==== Sys2Proof/Machine/Ppu.lean ====
section
/-! DEFINITION. The memory-mapped devices: the PPU register window and the controller port
(50_ppu_registers.md), and the classification of CPU addresses that reaches them (R63). -/

namespace Sys2Proof.Machine

/-- R270, R271: the register a window address reaches, `k = a mod 8`; every mirror alike (R286). -/
def ppuRegAt (a : Word) : PpuReg :=
  match a.toNat % 8 with
  | 0 => .control
  | 1 => .mask
  | 2 => .status
  | 3 => .oamAddr
  | 4 => .oamData
  | 5 => .scroll
  | 6 => .vramAddr
  | _ => .vramData

/-- R63: `Class(addr)`. -/
def classify (a : Word) : AddrClass :=
  if Config.ppuRegWindow ≤ a.toNat ∧ a.toNat ≤ Config.ppuRegMirrorEnd then .ppuReg (ppuRegAt a)
  else if a.toNat = Config.controllerPort then .controller
  else .plain

/-- R72: the place in PPU memory of an address, modulo 16384. -/
def ppuIndex (a : Nat) : Nat := a % Config.ppuMemBytes

/-- R72: `PpuRead`. -/
def ppuRead (mem : Memory) (a : Nat) : Byte := memGet mem (ppuIndex a)

/-- R72: `PpuWrite`. -/
def ppuWrite (mem : Memory) (a : Nat) (v : Byte) : Memory := memSet mem (ppuIndex a) v

/-- R273: `INC32 = PPUCTRL[2]`, and from it the pointer's increment `Delta`. -/
def vramDelta (s : State) : Word := if s.ppuctrl.getLsbD 2 then 32 else 1

/-- R275: the byte a status read gives: the three status bits over five drawn ones. -/
def statusByte (s : State) : Byte :=
  BitVec.ofBool s.vblank ++ BitVec.ofBool s.spr0hit ++ BitVec.ofBool s.sprovf ++ Config.statusLowBits s.draws

/-- R275, R279, R283, R284: the read of a register of the window. -/
def readPpuReg (k : PpuReg) (s : State) : Byte × State :=
  match k with
  | .status => (statusByte s, { s with vblank := false, w := false, draws := s.draws + 1 })
  | .oamData => (memGet s.oam s.oamaddr.toNat, s)
  | .vramData => (ppuRead s.ppuMem s.vaddr.toNat, { s with vaddr := s.vaddr + vramDelta s })
  | .control | .mask | .oamAddr | .scroll | .vramAddr =>
    (Config.writeOnlyRead s.draws, { s with draws := s.draws + 1 })

/-- R272, R274, R276 to R278, R280 to R282: the write of a register of the window. -/
def writePpuReg (k : PpuReg) (v : Byte) (s : State) : State :=
  match k with
  | .control => { s with ppuctrl := v }
  | .mask => { s with ppumask := v }
  | .status => s
  | .oamAddr => { s with oamaddr := v }
  | .oamData => { s with oam := memSet s.oam s.oamaddr.toNat v, oamaddr := s.oamaddr + 1 }
  | .scroll =>
    if s.w then { s with scrolly := v, w := false } else { s with scrollx := v, w := true }
  | .vramAddr =>
    if s.w then { s with vaddr := word v (highByte s.vaddr), w := false }
    else { s with vaddr := word (lowByte s.vaddr) v, w := true }
  | .vramData =>
    { s with ppuMem := ppuWrite s.ppuMem s.vaddr.toNat v, vaddr := s.vaddr + vramDelta s }

/-- R300, R304: `SHIFT <- Buttons()`, the host's answer being draw `draws`. -/
def reloadShift (s : State) : State := { s with shift := Config.buttons s.draws, draws := s.draws + 1 }

/-- R301: the read of the controller port: bit 0 is the next button, bits 7 to 1 are 0. -/
def readController (s : State) : Byte × State :=
  if s.strobe then
    let t := reloadShift s
    (t.shift &&& 1, t)
  else (s.shift &&& 1, { s with shift := (s.shift >>> 1) ||| 0x80 })

/-- R300: the write of the controller port; bits 7 to 1 of the byte are ignored. -/
def writeController (v : Byte) (s : State) : State :=
  let t := { s with strobe := v.getLsbD 0 }
  if v.getLsbD 0 then reloadShift t else t

end Sys2Proof.Machine
end

