-- ==== Sys2Proof/Machine/Ops.lean ====
section
/-! DEFINITION. The named operations over memory and registers: the CPU's access to its address space
(R64, R65), the stack (R11), the advance of PC (R26), taking the software trap and returning from it
(R371, R382, R385), and the fatal fault of an undefined opcode (R114, R372). -/

namespace Sys2Proof.Machine

/-- R10, R64: `MemRead(addr, 1)`, with every side effect: the byte and the state after. -/
def memRead (a : Word) (s : State) : Byte × State :=
  match classify a with
  | .plain => (memGet s.cpuMem a.toNat, s)
  | .ppuReg k => readPpuReg k s
  | .controller => readController s

/-- R66: the bytes that `RomWriteProtect` would keep. -/
def romProtected (a : Word) : Bool := Config.romWriteProtect && decide (Config.programRomBase ≤ a.toNat)

/-- R10, R65: `MemWrite(addr, 1, v)`, with every side effect. -/
def memWrite (a : Word) (v : Byte) (s : State) : State :=
  match classify a with
  | .plain => if romProtected a then s else { s with cpuMem := memSet s.cpuMem a.toNat v }
  | .ppuReg k => writePpuReg k v s
  | .controller => writeController v s

/-- R10: `MemRead16(addr)`, the low byte first. -/
def memRead16 (a : Word) (s : State) : Word × State :=
  let lo := memRead a s
  let hi := memRead (a + 1) lo.2
  (word lo.1 hi.1, hi.2)

/-- R26: `PC <- (PC + len) mod 65536`. -/
def advance (len : Word) (s : State) : State := { s with pc := s.pc + len }

/-- R38: the stack cell an S value names. -/
def stackAddr (sp : Byte) : Word := word sp 0x01

/-- R11: `Push(v)`. -/
def push (v : Byte) (s : State) : State :=
  let t := memWrite (stackAddr s.sp) v s
  { t with sp := t.sp - 1 }

/-- R11: `Pull()`. -/
def pull (s : State) : Byte × State :=
  let t := { s with sp := s.sp + 1 }
  memRead (stackAddr t.sp) t

/-- R187, R189: a 16-bit value pushed, high byte first. -/
def pushWord (v : Word) (s : State) : State := push (lowByte v) (push (highByte v) s)

/-- R188, R190: a 16-bit value pulled, low byte first. -/
def pullWord (s : State) : Word × State :=
  let lo := pull s
  let hi := pull lo.2
  (word lo.1 hi.1, hi.2)

/-- R67, R383: the IRQ/BRK vector. -/
def irqVector : Word := 0xFFFE

/-- R382: trap entry: the resume address and the status pushed, P.I set, PC from the vector. -/
def takeTrap (resume vector : Word) (s : State) : State :=
  let t := push (pushedStatus s.p) (pushWord resume s)
  let v := memRead16 vector { t with p := withFlag .i true t.p }
  { v.2 with pc := v.1 }

/-- R385: trap return: the status pulled, then the resume address. -/
def returnFromTrap (s : State) : State :=
  let f := pull s
  let v := pullWord { f.2 with p := loadedStatus f.1 }
  { v.2 with pc := v.1 }

/-- R13, R372: `raise UnknownOpcode(op, at)`: only HALTED changes. -/
def raiseUnknownOpcode (op : Byte) (pc : Word) (s : State) : State :=
  { s with halted := some (.unknownOpcode op pc) }

/-- R114: an undefined opcode byte at PC, under a policy. -/
def undefinedOpcode (policy : IllegalOpcodePolicy) (op : Byte) (s : State) : State :=
  match policy with
  | .fault => raiseUnknownOpcode op s.pc s
  | .nop1 => advance 1 s

end Sys2Proof.Machine
end

