-- ==== Sys2Proof/Machine/Operands.lean ====
section
/-! DEFINITION. The addressing resolver (40_addressing.md) and the shapes in which instructions use an
operand. An instruction's operand bytes are fetched before it runs (R145), so an operand here holds
them already; the pointer reads of the indirect modes are made here, through `memRead`. -/

namespace Sys2Proof.Machine

/-- R130: the nine modes that name a data byte. -/
inductive Operand where
  | imm (m : Byte)
  | zp (b : Byte)
  | zpx (b : Byte)
  | zpy (b : Byte)
  | abs (w : Word)
  | absx (w : Word)
  | absy (w : Word)
  | indx (b : Byte)
  | indy (b : Byte)
deriving DecidableEq, Repr

/-- R144: the length of an instruction with this operand. -/
def operandLen : Operand → Word
  | .imm _ | .zp _ | .zpx _ | .zpy _ | .indx _ | .indy _ => 2
  | .abs _ | .absx _ | .absy _ => 3

/-- R141, R142: the word at a zero-page pointer, its second byte from the same page. -/
def zeroPageWord (b : Byte) (s : State) : Word × State :=
  let lo := memRead (zext16 b) s
  let hi := memRead (zext16 (b + 1)) lo.2
  (word lo.1 hi.1, hi.2)

/-- R133 to R139, R141, R142: the effective address `EA`, and the state after the pointer reads. -/
def effAddr (o : Operand) (s : State) : Word × State :=
  match o with
  | .imm _ => (s.pc + 1, s)
  | .zp b => (zext16 b, s)
  | .zpx b => (zext16 (b + s.x), s)
  | .zpy b => (zext16 (b + s.y), s)
  | .abs w => (w, s)
  | .absx w => (w + zext16 s.x, s)
  | .absy w => (w + zext16 s.y, s)
  | .indx b => zeroPageWord (b + s.x) s
  | .indy b =>
    let p := zeroPageWord b s
    (p.1 + zext16 s.y, p.2)

/-- R14: the operand byte `M`, read once, and the state after; an immediate one was read by the fetch (R133). -/
def readOperand (o : Operand) (s : State) : Byte × State :=
  match o with
  | .imm m => (m, s)
  | _ => memRead (effAddr o s).1 (effAddr o s).2

/-- R143: the target of the absolute-indirect mode: both bytes from the pointer's own page. -/
def jumpTarget (ptr : Word) (s : State) : Word × State :=
  let lo := memRead ptr s
  let hi := memRead (word (lowByte ptr + 1) (highByte ptr)) lo.2
  (word lo.1 hi.1, hi.2)

/-- R140: the target of a branch with offset byte `d` at `pc`. -/
def branchTarget (pc : Word) (d : Byte) : Word := pc + 2 + sext16 d

/-- An instruction that uses `M`: `f` with the byte read, then the advance of PC. -/
def withOperand (o : Operand) (f : Byte → State → State) (s : State) : State :=
  let r := readOperand o s
  advance (operandLen o) (f r.1 r.2)

/-- R253 to R255: a store: `EA` is resolved and never read; then the advance of PC. -/
def storeOperand (o : Operand) (v : Byte) (s : State) : State :=
  let e := effAddr o s
  advance (operandLen o) (memWrite e.1 v e.2)

/-- R164, R205: a read-modify-write: one read of `EA`, one write, the new status; then the advance. -/
def modifyOperand (o : Operand) (f : Byte → Byte → Byte × Byte) (s : State) : State :=
  let e := effAddr o s
  let v := memRead e.1 e.2
  let r := f v.1 v.2.p
  let t := memWrite e.1 r.1 v.2
  advance (operandLen o) { t with p := r.2 }

end Sys2Proof.Machine
end

