-- ==== Sys2Proof/Machine/Arithmetic.lean ====
section
/-! DEFINITION. Arithmetic and logical instructions: ADC, SBC, AND, ORA, EOR (41_arithmetic_logical.md, R150 to R155). -/

namespace Sys2Proof.Machine

/-- The common shape of the five: `A <- f(A, M, P)`, with the new status. -/
def accumulate (o : Operand) (f : Byte → Byte → Byte → Byte × Byte) (s : State) : State :=
  withOperand o (fun m t => { t with a := (f t.a m t.p).1, p := (f t.a m t.p).2 }) s

/-- R150: ADC, immediate, opcode 0x69. -/
def execAdcImm (m : Byte) (s : State) : Out := .next (accumulate (.imm m) adcByte s)

/-- R150: ADC, zero page, opcode 0x65. -/
def execAdcZp (b : Byte) (s : State) : Out := .next (accumulate (.zp b) adcByte s)

/-- R150: ADC, zero page,X, opcode 0x75. -/
def execAdcZpx (b : Byte) (s : State) : Out := .next (accumulate (.zpx b) adcByte s)

/-- R150: ADC, absolute, opcode 0x6D. -/
def execAdcAbs (w : Word) (s : State) : Out := .next (accumulate (.abs w) adcByte s)

/-- R150: ADC, absolute,X, opcode 0x7D. -/
def execAdcAbsx (w : Word) (s : State) : Out := .next (accumulate (.absx w) adcByte s)

/-- R150: ADC, absolute,Y, opcode 0x79. -/
def execAdcAbsy (w : Word) (s : State) : Out := .next (accumulate (.absy w) adcByte s)

/-- R150: ADC, indexed-indirect (zp,X), opcode 0x61. -/
def execAdcIndx (b : Byte) (s : State) : Out := .next (accumulate (.indx b) adcByte s)

/-- R150: ADC, indirect-indexed (zp),Y, opcode 0x71. -/
def execAdcIndy (b : Byte) (s : State) : Out := .next (accumulate (.indy b) adcByte s)

/-- R151: SBC, immediate, opcode 0xE9. -/
def execSbcImm (m : Byte) (s : State) : Out := .next (accumulate (.imm m) sbcByte s)

/-- R151: SBC, zero page, opcode 0xE5. -/
def execSbcZp (b : Byte) (s : State) : Out := .next (accumulate (.zp b) sbcByte s)

/-- R151: SBC, zero page,X, opcode 0xF5. -/
def execSbcZpx (b : Byte) (s : State) : Out := .next (accumulate (.zpx b) sbcByte s)

/-- R151: SBC, absolute, opcode 0xED. -/
def execSbcAbs (w : Word) (s : State) : Out := .next (accumulate (.abs w) sbcByte s)

/-- R151: SBC, absolute,X, opcode 0xFD. -/
def execSbcAbsx (w : Word) (s : State) : Out := .next (accumulate (.absx w) sbcByte s)

/-- R151: SBC, absolute,Y, opcode 0xF9. -/
def execSbcAbsy (w : Word) (s : State) : Out := .next (accumulate (.absy w) sbcByte s)

/-- R151: SBC, indexed-indirect (zp,X), opcode 0xE1. -/
def execSbcIndx (b : Byte) (s : State) : Out := .next (accumulate (.indx b) sbcByte s)

/-- R151: SBC, indirect-indexed (zp),Y, opcode 0xF1. -/
def execSbcIndy (b : Byte) (s : State) : Out := .next (accumulate (.indy b) sbcByte s)

/-- R153: AND, immediate, opcode 0x29. -/
def execAndImm (m : Byte) (s : State) : Out := .next (accumulate (.imm m) andByte s)

/-- R153: AND, zero page, opcode 0x25. -/
def execAndZp (b : Byte) (s : State) : Out := .next (accumulate (.zp b) andByte s)

/-- R153: AND, zero page,X, opcode 0x35. -/
def execAndZpx (b : Byte) (s : State) : Out := .next (accumulate (.zpx b) andByte s)

/-- R153: AND, absolute, opcode 0x2D. -/
def execAndAbs (w : Word) (s : State) : Out := .next (accumulate (.abs w) andByte s)

/-- R153: AND, absolute,X, opcode 0x3D. -/
def execAndAbsx (w : Word) (s : State) : Out := .next (accumulate (.absx w) andByte s)

/-- R153: AND, absolute,Y, opcode 0x39. -/
def execAndAbsy (w : Word) (s : State) : Out := .next (accumulate (.absy w) andByte s)

/-- R153: AND, indexed-indirect (zp,X), opcode 0x21. -/
def execAndIndx (b : Byte) (s : State) : Out := .next (accumulate (.indx b) andByte s)

/-- R153: AND, indirect-indexed (zp),Y, opcode 0x31. -/
def execAndIndy (b : Byte) (s : State) : Out := .next (accumulate (.indy b) andByte s)

/-- R154: ORA, immediate, opcode 0x09. -/
def execOraImm (m : Byte) (s : State) : Out := .next (accumulate (.imm m) oraByte s)

/-- R154: ORA, zero page, opcode 0x05. -/
def execOraZp (b : Byte) (s : State) : Out := .next (accumulate (.zp b) oraByte s)

/-- R154: ORA, zero page,X, opcode 0x15. -/
def execOraZpx (b : Byte) (s : State) : Out := .next (accumulate (.zpx b) oraByte s)

/-- R154: ORA, absolute, opcode 0x0D. -/
def execOraAbs (w : Word) (s : State) : Out := .next (accumulate (.abs w) oraByte s)

/-- R154: ORA, absolute,X, opcode 0x1D. -/
def execOraAbsx (w : Word) (s : State) : Out := .next (accumulate (.absx w) oraByte s)

/-- R154: ORA, absolute,Y, opcode 0x19. -/
def execOraAbsy (w : Word) (s : State) : Out := .next (accumulate (.absy w) oraByte s)

/-- R154: ORA, indexed-indirect (zp,X), opcode 0x01. -/
def execOraIndx (b : Byte) (s : State) : Out := .next (accumulate (.indx b) oraByte s)

/-- R154: ORA, indirect-indexed (zp),Y, opcode 0x11. -/
def execOraIndy (b : Byte) (s : State) : Out := .next (accumulate (.indy b) oraByte s)

/-- R155: EOR, immediate, opcode 0x49. -/
def execEorImm (m : Byte) (s : State) : Out := .next (accumulate (.imm m) eorByte s)

/-- R155: EOR, zero page, opcode 0x45. -/
def execEorZp (b : Byte) (s : State) : Out := .next (accumulate (.zp b) eorByte s)

/-- R155: EOR, zero page,X, opcode 0x55. -/
def execEorZpx (b : Byte) (s : State) : Out := .next (accumulate (.zpx b) eorByte s)

/-- R155: EOR, absolute, opcode 0x4D. -/
def execEorAbs (w : Word) (s : State) : Out := .next (accumulate (.abs w) eorByte s)

/-- R155: EOR, absolute,X, opcode 0x5D. -/
def execEorAbsx (w : Word) (s : State) : Out := .next (accumulate (.absx w) eorByte s)

/-- R155: EOR, absolute,Y, opcode 0x59. -/
def execEorAbsy (w : Word) (s : State) : Out := .next (accumulate (.absy w) eorByte s)

/-- R155: EOR, indexed-indirect (zp,X), opcode 0x41. -/
def execEorIndx (b : Byte) (s : State) : Out := .next (accumulate (.indx b) eorByte s)

/-- R155: EOR, indirect-indexed (zp),Y, opcode 0x51. -/
def execEorIndy (b : Byte) (s : State) : Out := .next (accumulate (.indy b) eorByte s)

end Sys2Proof.Machine
end

