-- ==== Sys2Proof/Machine/Branches.lean ====
section
/-! DEFINITION. Conditional branches (43_branches.md, R170 to R178). -/

namespace Sys2Proof.Machine

/-- R170: the common rule of the eight branches. -/
def branch (cond : Bool) (d : Byte) (s : State) : State :=
  { s with pc := if cond then branchTarget s.pc d else s.pc + 2 }

/-- R171: BCC, relative, opcode 0x90. -/
def execBcc (d : Byte) (s : State) : Out := .next (branch (flagOf .c s.p == false) d s)

/-- R172: BCS, relative, opcode 0xB0. -/
def execBcs (d : Byte) (s : State) : Out := .next (branch (flagOf .c s.p == true) d s)

/-- R173: BEQ, relative, opcode 0xF0. -/
def execBeq (d : Byte) (s : State) : Out := .next (branch (flagOf .z s.p == true) d s)

/-- R174: BNE, relative, opcode 0xD0. -/
def execBne (d : Byte) (s : State) : Out := .next (branch (flagOf .z s.p == false) d s)

/-- R175: BVC, relative, opcode 0x50. -/
def execBvc (d : Byte) (s : State) : Out := .next (branch (flagOf .v s.p == false) d s)

/-- R176: BVS, relative, opcode 0x70. -/
def execBvs (d : Byte) (s : State) : Out := .next (branch (flagOf .v s.p == true) d s)

/-- R177: BPL, relative, opcode 0x10. -/
def execBpl (d : Byte) (s : State) : Out := .next (branch (flagOf .n s.p == false) d s)

/-- R178: BMI, relative, opcode 0x30. -/
def execBmi (d : Byte) (s : State) : Out := .next (branch (flagOf .n s.p == true) d s)

end Sys2Proof.Machine
end

