-- ==== Sys2Proof/Machine/Registers.lean ====
section
/-! DEFINITION. A register and the status written together by a one-byte instruction (R207 to R210, R215 to
R219), from a pair (result, P). -/

namespace Sys2Proof.Machine

/-- `A` and P written, PC advanced by 1. -/
def setA (r : Byte × Byte) (s : State) : State := advance 1 { s with a := r.1, p := r.2 }

/-- `X` and P written, PC advanced by 1. -/
def setX (r : Byte × Byte) (s : State) : State := advance 1 { s with x := r.1, p := r.2 }

/-- `Y` and P written, PC advanced by 1. -/
def setY (r : Byte × Byte) (s : State) : State := advance 1 { s with y := r.1, p := r.2 }

end Sys2Proof.Machine
end

