-- ==== Sys2Proof/Machine/Compare.lean ====
section
/-! DEFINITION. Compare, increment and decrement (45_compare_incdec.md, R200 to R210). -/

namespace Sys2Proof.Machine

/-- R203: the common compare rule for a register's value `r`: only the status changes. -/
def compareWith (o : Operand) (r : Byte) (s : State) : State :=
  withOperand o (fun m t => { t with p := compareStatus r m t.p }) s

/-- R200: CMP, immediate, opcode 0xC9. -/
def execCmpImm (m : Byte) (s : State) : Out := .next (compareWith (.imm m) s.a s)

/-- R200: CMP, zero page, opcode 0xC5. -/
def execCmpZp (b : Byte) (s : State) : Out := .next (compareWith (.zp b) s.a s)

/-- R200: CMP, zero page,X, opcode 0xD5. -/
def execCmpZpx (b : Byte) (s : State) : Out := .next (compareWith (.zpx b) s.a s)

/-- R200: CMP, absolute, opcode 0xCD. -/
def execCmpAbs (w : Word) (s : State) : Out := .next (compareWith (.abs w) s.a s)

/-- R200: CMP, absolute,X, opcode 0xDD. -/
def execCmpAbsx (w : Word) (s : State) : Out := .next (compareWith (.absx w) s.a s)

/-- R200: CMP, absolute,Y, opcode 0xD9. -/
def execCmpAbsy (w : Word) (s : State) : Out := .next (compareWith (.absy w) s.a s)

/-- R200: CMP, indexed-indirect (zp,X), opcode 0xC1. -/
def execCmpIndx (b : Byte) (s : State) : Out := .next (compareWith (.indx b) s.a s)

/-- R200: CMP, indirect-indexed (zp),Y, opcode 0xD1. -/
def execCmpIndy (b : Byte) (s : State) : Out := .next (compareWith (.indy b) s.a s)

/-- R201: CPX, immediate, opcode 0xE0. -/
def execCpxImm (m : Byte) (s : State) : Out := .next (compareWith (.imm m) s.x s)

/-- R201: CPX, zero page, opcode 0xE4. -/
def execCpxZp (b : Byte) (s : State) : Out := .next (compareWith (.zp b) s.x s)

/-- R201: CPX, absolute, opcode 0xEC. -/
def execCpxAbs (w : Word) (s : State) : Out := .next (compareWith (.abs w) s.x s)

/-- R202: CPY, immediate, opcode 0xC0. -/
def execCpyImm (m : Byte) (s : State) : Out := .next (compareWith (.imm m) s.y s)

/-- R202: CPY, zero page, opcode 0xC4. -/
def execCpyZp (b : Byte) (s : State) : Out := .next (compareWith (.zp b) s.y s)

/-- R202: CPY, absolute, opcode 0xCC. -/
def execCpyAbs (w : Word) (s : State) : Out := .next (compareWith (.abs w) s.y s)

/-- R205: INC, zero page, opcode 0xE6. -/
def execIncZp (b : Byte) (s : State) : Out := .next (modifyOperand (.zp b) incByte s)

/-- R205: INC, zero page,X, opcode 0xF6. -/
def execIncZpx (b : Byte) (s : State) : Out := .next (modifyOperand (.zpx b) incByte s)

/-- R205: INC, absolute, opcode 0xEE. -/
def execIncAbs (w : Word) (s : State) : Out := .next (modifyOperand (.abs w) incByte s)

/-- R205: INC, absolute,X, opcode 0xFE. -/
def execIncAbsx (w : Word) (s : State) : Out := .next (modifyOperand (.absx w) incByte s)

/-- R206: DEC, zero page, opcode 0xC6. -/
def execDecZp (b : Byte) (s : State) : Out := .next (modifyOperand (.zp b) decByte s)

/-- R206: DEC, zero page,X, opcode 0xD6. -/
def execDecZpx (b : Byte) (s : State) : Out := .next (modifyOperand (.zpx b) decByte s)

/-- R206: DEC, absolute, opcode 0xCE. -/
def execDecAbs (w : Word) (s : State) : Out := .next (modifyOperand (.abs w) decByte s)

/-- R206: DEC, absolute,X, opcode 0xDE. -/
def execDecAbsx (w : Word) (s : State) : Out := .next (modifyOperand (.absx w) decByte s)

/-- R207: INX, implied, opcode 0xE8. -/
def execInx (s : State) : Out := .next (setX (incByte s.x s.p) s)

/-- R208: DEX, implied, opcode 0xCA. -/
def execDex (s : State) : Out := .next (setX (decByte s.x s.p) s)

/-- R209: INY, implied, opcode 0xC8. -/
def execIny (s : State) : Out := .next (setY (incByte s.y s.p) s)

/-- R210: DEY, implied, opcode 0x88. -/
def execDey (s : State) : Out := .next (setY (decByte s.y s.p) s)

end Sys2Proof.Machine
end

