-- ==== Sys2Proof/Machine/Control.lean ====
section
/-! DEFINITION. Control transfer: JMP, JSR, RTS, BRK, RTI (44_control_transfer.md, R185 to R190). Each writes PC itself. -/

namespace Sys2Proof.Machine

/-- R186: JMP through the page-wrapping pointer of R143. -/
def jumpIndirect (ptr : Word) (s : State) : State :=
  let t := jumpTarget ptr s
  { t.2 with pc := t.1 }

/-- R187: JSR: the address of its own last byte pushed, then the jump. -/
def jumpSubroutine (target : Word) (s : State) : State := { pushWord (s.pc + 2) s with pc := target }

/-- R188: RTS: the pulled address plus one. -/
def returnSubroutine (s : State) : State :=
  let v := pullWord s
  { v.2 with pc := v.1 + 1 }

/-- R185: JMP, absolute, opcode 0x4C. -/
def execJmpAbs (w : Word) (s : State) : Out := .next { s with pc := w }

/-- R186: JMP, absolute indirect, opcode 0x6C. -/
def execJmpInd (w : Word) (s : State) : Out := .next (jumpIndirect w s)

/-- R187: JSR, absolute, opcode 0x20. -/
def execJsr (w : Word) (s : State) : Out := .next (jumpSubroutine w s)

/-- R188: RTS, implied, opcode 0x60. -/
def execRts (s : State) : Out := .next (returnSubroutine s)

/-- R189: BRK, implied, opcode 0x00. -/
def execBrk (s : State) : Out := .next (takeTrap (s.pc + 2) irqVector s)

/-- R190: RTI, implied, opcode 0x40. -/
def execRti (s : State) : Out := .next (returnFromTrap s)

end Sys2Proof.Machine
end

