-- ==== Sys2Proof/Machine/FlagOps.lean ====
section
/-! DEFINITION. Flag set and clear, and NOP (47_flags_nop.md, R235 to R242). -/

namespace Sys2Proof.Machine

/-- R235 to R241: exactly one flag of P written. -/
def setStatus (f : Flag) (x : Bool) (s : State) : State := advance 1 { s with p := withFlag f x s.p }

/-- R235: CLC, implied, opcode 0x18. -/
def execClc (s : State) : Out := .next (setStatus .c false s)

/-- R236: SEC, implied, opcode 0x38. -/
def execSec (s : State) : Out := .next (setStatus .c true s)

/-- R237: CLI, implied, opcode 0x58. -/
def execCli (s : State) : Out := .next (setStatus .i false s)

/-- R238: SEI, implied, opcode 0x78. -/
def execSei (s : State) : Out := .next (setStatus .i true s)

/-- R239: CLD, implied, opcode 0xD8. -/
def execCld (s : State) : Out := .next (setStatus .d false s)

/-- R240: SED, implied, opcode 0xF8. -/
def execSed (s : State) : Out := .next (setStatus .d true s)

/-- R241: CLV, implied, opcode 0xB8. -/
def execClv (s : State) : Out := .next (setStatus .v false s)

/-- R242: NOP, implied, opcode 0xEA. -/
def execNop (s : State) : Out := .next (advance 1 s)

end Sys2Proof.Machine
end

