-- ==== Sys2Proof/Machine/LoadStore.lean ====
section
/-! DEFINITION. Load, store and bit test (48_load_store_bit.md, R250 to R256). -/

namespace Sys2Proof.Machine

/-- R250: LDA. -/
def loadA (o : Operand) (s : State) : State := withOperand o (fun m t => { t with a := m, p := withZN m t.p }) s

/-- R251: LDX. -/
def loadX (o : Operand) (s : State) : State := withOperand o (fun m t => { t with x := m, p := withZN m t.p }) s

/-- R252: LDY. -/
def loadY (o : Operand) (s : State) : State := withOperand o (fun m t => { t with y := m, p := withZN m t.p }) s

/-- R256: BIT. -/
def bitTest (o : Operand) (s : State) : State := withOperand o (fun m t => { t with p := bitStatus t.a m t.p }) s

/-- R250: LDA, immediate, opcode 0xA9. -/
def execLdaImm (m : Byte) (s : State) : Out := .next (loadA (.imm m) s)

/-- R250: LDA, zero page, opcode 0xA5. -/
def execLdaZp (b : Byte) (s : State) : Out := .next (loadA (.zp b) s)

/-- R250: LDA, zero page,X, opcode 0xB5. -/
def execLdaZpx (b : Byte) (s : State) : Out := .next (loadA (.zpx b) s)

/-- R250: LDA, absolute, opcode 0xAD. -/
def execLdaAbs (w : Word) (s : State) : Out := .next (loadA (.abs w) s)

/-- R250: LDA, absolute,X, opcode 0xBD. -/
def execLdaAbsx (w : Word) (s : State) : Out := .next (loadA (.absx w) s)

/-- R250: LDA, absolute,Y, opcode 0xB9. -/
def execLdaAbsy (w : Word) (s : State) : Out := .next (loadA (.absy w) s)

/-- R250: LDA, indexed-indirect (zp,X), opcode 0xA1. -/
def execLdaIndx (b : Byte) (s : State) : Out := .next (loadA (.indx b) s)

/-- R250: LDA, indirect-indexed (zp),Y, opcode 0xB1. -/
def execLdaIndy (b : Byte) (s : State) : Out := .next (loadA (.indy b) s)

/-- R251: LDX, immediate, opcode 0xA2. -/
def execLdxImm (m : Byte) (s : State) : Out := .next (loadX (.imm m) s)

/-- R251: LDX, zero page, opcode 0xA6. -/
def execLdxZp (b : Byte) (s : State) : Out := .next (loadX (.zp b) s)

/-- R251: LDX, zero page,Y, opcode 0xB6. -/
def execLdxZpy (b : Byte) (s : State) : Out := .next (loadX (.zpy b) s)

/-- R251: LDX, absolute, opcode 0xAE. -/
def execLdxAbs (w : Word) (s : State) : Out := .next (loadX (.abs w) s)

/-- R251: LDX, absolute,Y, opcode 0xBE. -/
def execLdxAbsy (w : Word) (s : State) : Out := .next (loadX (.absy w) s)

/-- R252: LDY, immediate, opcode 0xA0. -/
def execLdyImm (m : Byte) (s : State) : Out := .next (loadY (.imm m) s)

/-- R252: LDY, zero page, opcode 0xA4. -/
def execLdyZp (b : Byte) (s : State) : Out := .next (loadY (.zp b) s)

/-- R252: LDY, zero page,X, opcode 0xB4. -/
def execLdyZpx (b : Byte) (s : State) : Out := .next (loadY (.zpx b) s)

/-- R252: LDY, absolute, opcode 0xAC. -/
def execLdyAbs (w : Word) (s : State) : Out := .next (loadY (.abs w) s)

/-- R252: LDY, absolute,X, opcode 0xBC. -/
def execLdyAbsx (w : Word) (s : State) : Out := .next (loadY (.absx w) s)

/-- R253: STA, zero page, opcode 0x85. -/
def execStaZp (b : Byte) (s : State) : Out := .next (storeOperand (.zp b) s.a s)

/-- R253: STA, zero page,X, opcode 0x95. -/
def execStaZpx (b : Byte) (s : State) : Out := .next (storeOperand (.zpx b) s.a s)

/-- R253: STA, absolute, opcode 0x8D. -/
def execStaAbs (w : Word) (s : State) : Out := .next (storeOperand (.abs w) s.a s)

/-- R253: STA, absolute,X, opcode 0x9D. -/
def execStaAbsx (w : Word) (s : State) : Out := .next (storeOperand (.absx w) s.a s)

/-- R253: STA, absolute,Y, opcode 0x99. -/
def execStaAbsy (w : Word) (s : State) : Out := .next (storeOperand (.absy w) s.a s)

/-- R253: STA, indexed-indirect (zp,X), opcode 0x81. -/
def execStaIndx (b : Byte) (s : State) : Out := .next (storeOperand (.indx b) s.a s)

/-- R253: STA, indirect-indexed (zp),Y, opcode 0x91. -/
def execStaIndy (b : Byte) (s : State) : Out := .next (storeOperand (.indy b) s.a s)

/-- R254: STX, zero page, opcode 0x86. -/
def execStxZp (b : Byte) (s : State) : Out := .next (storeOperand (.zp b) s.x s)

/-- R254: STX, zero page,Y, opcode 0x96. -/
def execStxZpy (b : Byte) (s : State) : Out := .next (storeOperand (.zpy b) s.x s)

/-- R254: STX, absolute, opcode 0x8E. -/
def execStxAbs (w : Word) (s : State) : Out := .next (storeOperand (.abs w) s.x s)

/-- R255: STY, zero page, opcode 0x84. -/
def execStyZp (b : Byte) (s : State) : Out := .next (storeOperand (.zp b) s.y s)

/-- R255: STY, zero page,X, opcode 0x94. -/
def execStyZpx (b : Byte) (s : State) : Out := .next (storeOperand (.zpx b) s.y s)

/-- R255: STY, absolute, opcode 0x8C. -/
def execStyAbs (w : Word) (s : State) : Out := .next (storeOperand (.abs w) s.y s)

/-- R256: BIT, zero page, opcode 0x24. -/
def execBitZp (b : Byte) (s : State) : Out := .next (bitTest (.zp b) s)

/-- R256: BIT, absolute, opcode 0x2C. -/
def execBitAbs (w : Word) (s : State) : Out := .next (bitTest (.abs w) s)

end Sys2Proof.Machine
end

