-- ==== Sys2Proof/Machine/Shifts.lean ====
section
/-! DEFINITION. Shifts and rotates: ASL, LSR, ROL, ROR (42_shifts.md, R160 to R164). -/

namespace Sys2Proof.Machine

/-- R164: the accumulator form: `A` and P from `f(A, P)`; no memory access. -/
def modifyAcc (f : Byte → Byte → Byte × Byte) (s : State) : State :=
  advance 1 { s with a := (f s.a s.p).1, p := (f s.a s.p).2 }

/-- R160: ASL, accumulator, opcode 0x0A. -/
def execAslAcc (s : State) : Out := .next (modifyAcc aslByte s)

/-- R160: ASL, zero page, opcode 0x06. -/
def execAslZp (b : Byte) (s : State) : Out := .next (modifyOperand (.zp b) aslByte s)

/-- R160: ASL, zero page,X, opcode 0x16. -/
def execAslZpx (b : Byte) (s : State) : Out := .next (modifyOperand (.zpx b) aslByte s)

/-- R160: ASL, absolute, opcode 0x0E. -/
def execAslAbs (w : Word) (s : State) : Out := .next (modifyOperand (.abs w) aslByte s)

/-- R160: ASL, absolute,X, opcode 0x1E. -/
def execAslAbsx (w : Word) (s : State) : Out := .next (modifyOperand (.absx w) aslByte s)

/-- R161: LSR, accumulator, opcode 0x4A. -/
def execLsrAcc (s : State) : Out := .next (modifyAcc lsrByte s)

/-- R161: LSR, zero page, opcode 0x46. -/
def execLsrZp (b : Byte) (s : State) : Out := .next (modifyOperand (.zp b) lsrByte s)

/-- R161: LSR, zero page,X, opcode 0x56. -/
def execLsrZpx (b : Byte) (s : State) : Out := .next (modifyOperand (.zpx b) lsrByte s)

/-- R161: LSR, absolute, opcode 0x4E. -/
def execLsrAbs (w : Word) (s : State) : Out := .next (modifyOperand (.abs w) lsrByte s)

/-- R161: LSR, absolute,X, opcode 0x5E. -/
def execLsrAbsx (w : Word) (s : State) : Out := .next (modifyOperand (.absx w) lsrByte s)

/-- R162: ROL, accumulator, opcode 0x2A. -/
def execRolAcc (s : State) : Out := .next (modifyAcc rolByte s)

/-- R162: ROL, zero page, opcode 0x26. -/
def execRolZp (b : Byte) (s : State) : Out := .next (modifyOperand (.zp b) rolByte s)

/-- R162: ROL, zero page,X, opcode 0x36. -/
def execRolZpx (b : Byte) (s : State) : Out := .next (modifyOperand (.zpx b) rolByte s)

/-- R162: ROL, absolute, opcode 0x2E. -/
def execRolAbs (w : Word) (s : State) : Out := .next (modifyOperand (.abs w) rolByte s)

/-- R162: ROL, absolute,X, opcode 0x3E. -/
def execRolAbsx (w : Word) (s : State) : Out := .next (modifyOperand (.absx w) rolByte s)

/-- R163: ROR, accumulator, opcode 0x6A. -/
def execRorAcc (s : State) : Out := .next (modifyAcc rorByte s)

/-- R163: ROR, zero page, opcode 0x66. -/
def execRorZp (b : Byte) (s : State) : Out := .next (modifyOperand (.zp b) rorByte s)

/-- R163: ROR, zero page,X, opcode 0x76. -/
def execRorZpx (b : Byte) (s : State) : Out := .next (modifyOperand (.zpx b) rorByte s)

/-- R163: ROR, absolute, opcode 0x6E. -/
def execRorAbs (w : Word) (s : State) : Out := .next (modifyOperand (.abs w) rorByte s)

/-- R163: ROR, absolute,X, opcode 0x7E. -/
def execRorAbsx (w : Word) (s : State) : Out := .next (modifyOperand (.absx w) rorByte s)

end Sys2Proof.Machine
end

