-- ==== Sys2Proof/Machine/Transfer.lean ====
section
/-! DEFINITION. Register transfer and stack instructions (46_transfer_stack.md, R215 to R228). -/

namespace Sys2Proof.Machine

/-- R215 to R219: a copied byte with the status of `SetZN`. -/
def transferByte (v p : Byte) : Byte × Byte := (v, withZN v p)

/-- R226: PLA. -/
def pullA (s : State) : State :=
  let v := pull s
  advance 1 { v.2 with a := v.1, p := withZN v.1 v.2.p }

/-- R228: PLP. -/
def pullStatus (s : State) : State :=
  let f := pull s
  advance 1 { f.2 with p := loadedStatus f.1 }

/-- R215: TAX, implied, opcode 0xAA. -/
def execTax (s : State) : Out := .next (setX (transferByte s.a s.p) s)

/-- R216: TAY, implied, opcode 0xA8. -/
def execTay (s : State) : Out := .next (setY (transferByte s.a s.p) s)

/-- R217: TXA, implied, opcode 0x8A. -/
def execTxa (s : State) : Out := .next (setA (transferByte s.x s.p) s)

/-- R218: TYA, implied, opcode 0x98. -/
def execTya (s : State) : Out := .next (setA (transferByte s.y s.p) s)

/-- R219: TSX, implied, opcode 0xBA. -/
def execTsx (s : State) : Out := .next (setX (transferByte s.sp s.p) s)

/-- R220: TXS, implied, opcode 0x9A. -/
def execTxs (s : State) : Out := .next (advance 1 { s with sp := s.x })

/-- R225: PHA, implied, opcode 0x48. -/
def execPha (s : State) : Out := .next (advance 1 (push s.a s))

/-- R226: PLA, implied, opcode 0x68. -/
def execPla (s : State) : Out := .next (pullA s)

/-- R227: PHP, implied, opcode 0x08. -/
def execPhp (s : State) : Out := .next (advance 1 (push (pushedStatus s.p) s))

/-- R228: PLP, implied, opcode 0x28. -/
def execPlp (s : State) : Out := .next (pullStatus s)

end Sys2Proof.Machine
end

