-- ==== Sys2Proof/Syntax.lean ====
section
/-! DEFINITION. The instructions: one constructor per row of spec/opcode_table.json, in the order of
rule R19; beside them the mnemonics (R110) and the 13 addressing modes (R144). An operand byte is
`m` (immediate), `d` (branch offset) or `b` (zero-page address or pointer); `w` is the 16-bit operand
`Word(b1, b2)` (R106). -/

namespace Sys2Proof

/-- R144: the addressing modes. -/
inductive Mode where
  | imp | acc | imm | zp | zpx | zpy | abs | absx | absy | rel | indx | indy | ind
deriving DecidableEq, Repr

/-- R110: the 56 mnemonics. -/
inductive Mnemonic where
  | adc | sbc | and | ora | eor
  | asl | lsr | rol | ror
  | bcc | bcs | beq | bne | bvc | bvs | bpl | bmi
  | jmp | jsr | rts | brk | rti
  | cmp | cpx | cpy | inc | dec | inx | dex | iny | dey
  | tax | tay | txa | tya | tsx | txs | pha | pla | php | plp
  | clc | sec | cli | sei | cld | sed | clv | nop
  | lda | ldx | ldy | sta | stx | sty | bit
deriving DecidableEq, Repr

/-- The instructions (R111). -/
inductive Instr where
  -- Arithmetic and logical (41_arithmetic_logical.md)
  | adcImm (m : Byte) | adcZp (b : Byte) | adcZpx (b : Byte) | adcAbs (w : Word)
  | adcAbsx (w : Word) | adcAbsy (w : Word) | adcIndx (b : Byte) | adcIndy (b : Byte)
  | sbcImm (m : Byte) | sbcZp (b : Byte) | sbcZpx (b : Byte) | sbcAbs (w : Word)
  | sbcAbsx (w : Word) | sbcAbsy (w : Word) | sbcIndx (b : Byte) | sbcIndy (b : Byte)
  | andImm (m : Byte) | andZp (b : Byte) | andZpx (b : Byte) | andAbs (w : Word)
  | andAbsx (w : Word) | andAbsy (w : Word) | andIndx (b : Byte) | andIndy (b : Byte)
  | oraImm (m : Byte) | oraZp (b : Byte) | oraZpx (b : Byte) | oraAbs (w : Word)
  | oraAbsx (w : Word) | oraAbsy (w : Word) | oraIndx (b : Byte) | oraIndy (b : Byte)
  | eorImm (m : Byte) | eorZp (b : Byte) | eorZpx (b : Byte) | eorAbs (w : Word)
  | eorAbsx (w : Word) | eorAbsy (w : Word) | eorIndx (b : Byte) | eorIndy (b : Byte)
  -- Shifts and rotates (42_shifts.md)
  | aslAcc | aslZp (b : Byte) | aslZpx (b : Byte) | aslAbs (w : Word) | aslAbsx (w : Word)
  | lsrAcc | lsrZp (b : Byte) | lsrZpx (b : Byte) | lsrAbs (w : Word) | lsrAbsx (w : Word)
  | rolAcc | rolZp (b : Byte) | rolZpx (b : Byte) | rolAbs (w : Word) | rolAbsx (w : Word)
  | rorAcc | rorZp (b : Byte) | rorZpx (b : Byte) | rorAbs (w : Word) | rorAbsx (w : Word)
  -- Branches (43_branches.md)
  | bcc (d : Byte)
  | bcs (d : Byte)
  | beq (d : Byte)
  | bne (d : Byte)
  | bvc (d : Byte)
  | bvs (d : Byte)
  | bpl (d : Byte)
  | bmi (d : Byte)
  -- Control transfer (44_control_transfer.md)
  | jmpAbs (w : Word) | jmpInd (w : Word)
  | jsr (w : Word)
  | rts
  | brk
  | rti
  -- Compare, increment, decrement (45_compare_incdec.md)
  | cmpImm (m : Byte) | cmpZp (b : Byte) | cmpZpx (b : Byte) | cmpAbs (w : Word)
  | cmpAbsx (w : Word) | cmpAbsy (w : Word) | cmpIndx (b : Byte) | cmpIndy (b : Byte)
  | cpxImm (m : Byte) | cpxZp (b : Byte) | cpxAbs (w : Word)
  | cpyImm (m : Byte) | cpyZp (b : Byte) | cpyAbs (w : Word)
  | incZp (b : Byte) | incZpx (b : Byte) | incAbs (w : Word) | incAbsx (w : Word)
  | decZp (b : Byte) | decZpx (b : Byte) | decAbs (w : Word) | decAbsx (w : Word)
  | inx
  | dex
  | iny
  | dey
  -- Register transfer and stack (46_transfer_stack.md)
  | tax
  | tay
  | txa
  | tya
  | tsx
  | txs
  | pha
  | pla
  | php
  | plp
  -- Flags and NOP (47_flags_nop.md)
  | clc
  | sec
  | cli
  | sei
  | cld
  | sed
  | clv
  | nop
  -- Load, store, bit test (48_load_store_bit.md)
  | ldaImm (m : Byte) | ldaZp (b : Byte) | ldaZpx (b : Byte) | ldaAbs (w : Word)
  | ldaAbsx (w : Word) | ldaAbsy (w : Word) | ldaIndx (b : Byte) | ldaIndy (b : Byte)
  | ldxImm (m : Byte) | ldxZp (b : Byte) | ldxZpy (b : Byte) | ldxAbs (w : Word)
  | ldxAbsy (w : Word)
  | ldyImm (m : Byte) | ldyZp (b : Byte) | ldyZpx (b : Byte) | ldyAbs (w : Word)
  | ldyAbsx (w : Word)
  | staZp (b : Byte) | staZpx (b : Byte) | staAbs (w : Word) | staAbsx (w : Word)
  | staAbsy (w : Word) | staIndx (b : Byte) | staIndy (b : Byte)
  | stxZp (b : Byte) | stxZpy (b : Byte) | stxAbs (w : Word)
  | styZp (b : Byte) | styZpx (b : Byte) | styAbs (w : Word)
  | bitZp (b : Byte) | bitAbs (w : Word)
deriving DecidableEq, Repr

/-- The mnemonic of an instruction (R111). -/
def Instr.mnemonic : Instr → Mnemonic
  | .adcImm _ | .adcZp _ | .adcZpx _ | .adcAbs _ | .adcAbsx _ | .adcAbsy _ | .adcIndx _
  | .adcIndy _ => .adc
  | .sbcImm _ | .sbcZp _ | .sbcZpx _ | .sbcAbs _ | .sbcAbsx _ | .sbcAbsy _ | .sbcIndx _
  | .sbcIndy _ => .sbc
  | .andImm _ | .andZp _ | .andZpx _ | .andAbs _ | .andAbsx _ | .andAbsy _ | .andIndx _
  | .andIndy _ => .and
  | .oraImm _ | .oraZp _ | .oraZpx _ | .oraAbs _ | .oraAbsx _ | .oraAbsy _ | .oraIndx _
  | .oraIndy _ => .ora
  | .eorImm _ | .eorZp _ | .eorZpx _ | .eorAbs _ | .eorAbsx _ | .eorAbsy _ | .eorIndx _
  | .eorIndy _ => .eor
  | .aslAcc | .aslZp _ | .aslZpx _ | .aslAbs _ | .aslAbsx _ => .asl
  | .lsrAcc | .lsrZp _ | .lsrZpx _ | .lsrAbs _ | .lsrAbsx _ => .lsr
  | .rolAcc | .rolZp _ | .rolZpx _ | .rolAbs _ | .rolAbsx _ => .rol
  | .rorAcc | .rorZp _ | .rorZpx _ | .rorAbs _ | .rorAbsx _ => .ror
  | .bcc _ => .bcc
  | .bcs _ => .bcs
  | .beq _ => .beq
  | .bne _ => .bne
  | .bvc _ => .bvc
  | .bvs _ => .bvs
  | .bpl _ => .bpl
  | .bmi _ => .bmi
  | .jmpAbs _ | .jmpInd _ => .jmp
  | .jsr _ => .jsr
  | .rts => .rts
  | .brk => .brk
  | .rti => .rti
  | .cmpImm _ | .cmpZp _ | .cmpZpx _ | .cmpAbs _ | .cmpAbsx _ | .cmpAbsy _ | .cmpIndx _
  | .cmpIndy _ => .cmp
  | .cpxImm _ | .cpxZp _ | .cpxAbs _ => .cpx
  | .cpyImm _ | .cpyZp _ | .cpyAbs _ => .cpy
  | .incZp _ | .incZpx _ | .incAbs _ | .incAbsx _ => .inc
  | .decZp _ | .decZpx _ | .decAbs _ | .decAbsx _ => .dec
  | .inx => .inx
  | .dex => .dex
  | .iny => .iny
  | .dey => .dey
  | .tax => .tax
  | .tay => .tay
  | .txa => .txa
  | .tya => .tya
  | .tsx => .tsx
  | .txs => .txs
  | .pha => .pha
  | .pla => .pla
  | .php => .php
  | .plp => .plp
  | .clc => .clc
  | .sec => .sec
  | .cli => .cli
  | .sei => .sei
  | .cld => .cld
  | .sed => .sed
  | .clv => .clv
  | .nop => .nop
  | .ldaImm _ | .ldaZp _ | .ldaZpx _ | .ldaAbs _ | .ldaAbsx _ | .ldaAbsy _ | .ldaIndx _
  | .ldaIndy _ => .lda
  | .ldxImm _ | .ldxZp _ | .ldxZpy _ | .ldxAbs _ | .ldxAbsy _ => .ldx
  | .ldyImm _ | .ldyZp _ | .ldyZpx _ | .ldyAbs _ | .ldyAbsx _ => .ldy
  | .staZp _ | .staZpx _ | .staAbs _ | .staAbsx _ | .staAbsy _ | .staIndx _ | .staIndy _ => .sta
  | .stxZp _ | .stxZpy _ | .stxAbs _ => .stx
  | .styZp _ | .styZpx _ | .styAbs _ => .sty
  | .bitZp _ | .bitAbs _ => .bit

/-- The addressing mode of an instruction (R111). -/
def Instr.mode : Instr → Mode
  | .adcImm _ | .sbcImm _ | .andImm _ | .oraImm _ | .eorImm _ | .cmpImm _ | .cpxImm _
  | .cpyImm _ | .ldaImm _ | .ldxImm _ | .ldyImm _ => .imm
  | .adcZp _ | .sbcZp _ | .andZp _ | .oraZp _ | .eorZp _ | .aslZp _ | .lsrZp _ | .rolZp _
  | .rorZp _ | .cmpZp _ | .cpxZp _ | .cpyZp _ | .incZp _ | .decZp _ | .ldaZp _ | .ldxZp _
  | .ldyZp _ | .staZp _ | .stxZp _ | .styZp _ | .bitZp _ => .zp
  | .adcZpx _ | .sbcZpx _ | .andZpx _ | .oraZpx _ | .eorZpx _ | .aslZpx _ | .lsrZpx _
  | .rolZpx _ | .rorZpx _ | .cmpZpx _ | .incZpx _ | .decZpx _ | .ldaZpx _ | .ldyZpx _
  | .staZpx _ | .styZpx _ => .zpx
  | .adcAbs _ | .sbcAbs _ | .andAbs _ | .oraAbs _ | .eorAbs _ | .aslAbs _ | .lsrAbs _
  | .rolAbs _ | .rorAbs _ | .jmpAbs _ | .jsr _ | .cmpAbs _ | .cpxAbs _ | .cpyAbs _ | .incAbs _
  | .decAbs _ | .ldaAbs _ | .ldxAbs _ | .ldyAbs _ | .staAbs _ | .stxAbs _ | .styAbs _
  | .bitAbs _ => .abs
  | .adcAbsx _ | .sbcAbsx _ | .andAbsx _ | .oraAbsx _ | .eorAbsx _ | .aslAbsx _ | .lsrAbsx _
  | .rolAbsx _ | .rorAbsx _ | .cmpAbsx _ | .incAbsx _ | .decAbsx _ | .ldaAbsx _ | .ldyAbsx _
  | .staAbsx _ => .absx
  | .adcAbsy _ | .sbcAbsy _ | .andAbsy _ | .oraAbsy _ | .eorAbsy _ | .cmpAbsy _ | .ldaAbsy _
  | .ldxAbsy _ | .staAbsy _ => .absy
  | .adcIndx _ | .sbcIndx _ | .andIndx _ | .oraIndx _ | .eorIndx _ | .cmpIndx _ | .ldaIndx _
  | .staIndx _ => .indx
  | .adcIndy _ | .sbcIndy _ | .andIndy _ | .oraIndy _ | .eorIndy _ | .cmpIndy _ | .ldaIndy _
  | .staIndy _ => .indy
  | .aslAcc | .lsrAcc | .rolAcc | .rorAcc => .acc
  | .bcc _ | .bcs _ | .beq _ | .bne _ | .bvc _ | .bvs _ | .bpl _ | .bmi _ => .rel
  | .jmpInd _ => .ind
  | .rts | .brk | .rti | .inx | .dex | .iny | .dey | .tax | .tay | .txa | .tya | .tsx | .txs
  | .pha | .pla | .php | .plp | .clc | .sec | .cli | .sei | .cld | .sed | .clv | .nop => .imp
  | .ldxZpy _ | .stxZpy _ => .zpy

end Sys2Proof
end

