-- ==== Sys2Proof/WellFormed.lean ====
section
/-! DEFINITION. Well-formedness. An operand of any bits is legal (R115), and its width is its type's; what
is left to check is rule R111's pairing of mnemonics with addressing modes, and its lengths (R103). -/

namespace Sys2Proof

/-- R111: the modes each mnemonic has (the cells of its row that are not empty). -/
def Mnemonic.modes : Mnemonic → List Mode
  | .adc | .sbc | .and | .ora | .eor | .cmp | .lda => [.imm, .zp, .zpx, .abs, .absx, .absy, .indx, .indy]
  | .asl | .lsr | .rol | .ror => [.acc, .zp, .zpx, .abs, .absx]
  | .bcc | .bcs | .beq | .bne | .bvc | .bvs | .bpl | .bmi => [.rel]
  | .jmp => [.abs, .ind]
  | .jsr => [.abs]
  | .rts | .brk | .rti | .inx | .dex | .iny | .dey | .tax | .tay | .txa | .tya | .tsx | .txs
  | .pha | .pla | .php | .plp | .clc | .sec | .cli | .sei | .cld | .sed | .clv | .nop => [.imp]
  | .cpx | .cpy => [.imm, .zp, .abs]
  | .inc | .dec => [.zp, .zpx, .abs, .absx]
  | .ldx => [.imm, .zp, .zpy, .abs, .absy]
  | .ldy => [.imm, .zp, .zpx, .abs, .absx]
  | .sta => [.zp, .zpx, .abs, .absx, .absy, .indx, .indy]
  | .stx => [.zp, .zpy, .abs]
  | .sty => [.zp, .zpx, .abs]
  | .bit => [.zp, .abs]

/-- R103, R144: the length of an instruction in bytes, by its mode. -/
def Mode.length : Mode → Nat
  | .imp | .acc => 1
  | .imm | .zp | .zpx | .zpy | .rel | .indx | .indy => 2
  | .abs | .absx | .absy | .ind => 3

/-- R111: the pairing is one the table has. -/
def pairDefined (k : Mnemonic) (mode : Mode) : Bool := k.modes.contains mode

/-- R101, R103: the length of an instruction. -/
def Instr.length (i : Instr) : Nat := i.mode.length

/-- An instruction is well-formed when its mnemonic has its mode (R111). -/
def Instr.wellFormed (i : Instr) : Bool := pairDefined i.mnemonic i.mode

end Sys2Proof
end

