-- ==== Sys2Proof/Decode.lean ====
section
/-! DEFINITION. Instruction decoding: the 256-entry table of rule R112, one entry per opcode byte, each in
one of the three formats of rule R102; a decoder total on any bytes, which rejects by name; and the
encoder of the same tables. -/

namespace Sys2Proof

/-- R102: a table entry, by how many operand bytes follow the opcode. -/
inductive Format where
  | f1 (i : Instr)
  | f2 (mk : Byte → Instr)
  | f3 (mk : Word → Instr)

open Format

/-- R112: opcode bytes 0x00 to 0x0F. -/
def opcodeRow0 : List (Option Format) := [
  some (f1 .brk), some (f2 .oraIndx), none, none,
  none, some (f2 .oraZp), some (f2 .aslZp), none,
  some (f1 .php), some (f2 .oraImm), some (f1 .aslAcc), none,
  none, some (f3 .oraAbs), some (f3 .aslAbs), none]

/-- R112: opcode bytes 0x10 to 0x1F. -/
def opcodeRow1 : List (Option Format) := [
  some (f2 .bpl), some (f2 .oraIndy), none, none,
  none, some (f2 .oraZpx), some (f2 .aslZpx), none,
  some (f1 .clc), some (f3 .oraAbsy), none, none,
  none, some (f3 .oraAbsx), some (f3 .aslAbsx), none]

/-- R112: opcode bytes 0x20 to 0x2F. -/
def opcodeRow2 : List (Option Format) := [
  some (f3 .jsr), some (f2 .andIndx), none, none,
  some (f2 .bitZp), some (f2 .andZp), some (f2 .rolZp), none,
  some (f1 .plp), some (f2 .andImm), some (f1 .rolAcc), none,
  some (f3 .bitAbs), some (f3 .andAbs), some (f3 .rolAbs), none]

/-- R112: opcode bytes 0x30 to 0x3F. -/
def opcodeRow3 : List (Option Format) := [
  some (f2 .bmi), some (f2 .andIndy), none, none,
  none, some (f2 .andZpx), some (f2 .rolZpx), none,
  some (f1 .sec), some (f3 .andAbsy), none, none,
  none, some (f3 .andAbsx), some (f3 .rolAbsx), none]

/-- R112: opcode bytes 0x40 to 0x4F. -/
def opcodeRow4 : List (Option Format) := [
  some (f1 .rti), some (f2 .eorIndx), none, none,
  none, some (f2 .eorZp), some (f2 .lsrZp), none,
  some (f1 .pha), some (f2 .eorImm), some (f1 .lsrAcc), none,
  some (f3 .jmpAbs), some (f3 .eorAbs), some (f3 .lsrAbs), none]

/-- R112: opcode bytes 0x50 to 0x5F. -/
def opcodeRow5 : List (Option Format) := [
  some (f2 .bvc), some (f2 .eorIndy), none, none,
  none, some (f2 .eorZpx), some (f2 .lsrZpx), none,
  some (f1 .cli), some (f3 .eorAbsy), none, none,
  none, some (f3 .eorAbsx), some (f3 .lsrAbsx), none]

/-- R112: opcode bytes 0x60 to 0x6F. -/
def opcodeRow6 : List (Option Format) := [
  some (f1 .rts), some (f2 .adcIndx), none, none,
  none, some (f2 .adcZp), some (f2 .rorZp), none,
  some (f1 .pla), some (f2 .adcImm), some (f1 .rorAcc), none,
  some (f3 .jmpInd), some (f3 .adcAbs), some (f3 .rorAbs), none]

/-- R112: opcode bytes 0x70 to 0x7F. -/
def opcodeRow7 : List (Option Format) := [
  some (f2 .bvs), some (f2 .adcIndy), none, none,
  none, some (f2 .adcZpx), some (f2 .rorZpx), none,
  some (f1 .sei), some (f3 .adcAbsy), none, none,
  none, some (f3 .adcAbsx), some (f3 .rorAbsx), none]

/-- R112: opcode bytes 0x80 to 0x8F. -/
def opcodeRow8 : List (Option Format) := [
  none, some (f2 .staIndx), none, none,
  some (f2 .styZp), some (f2 .staZp), some (f2 .stxZp), none,
  some (f1 .dey), none, some (f1 .txa), none,
  some (f3 .styAbs), some (f3 .staAbs), some (f3 .stxAbs), none]

/-- R112: opcode bytes 0x90 to 0x9F. -/
def opcodeRow9 : List (Option Format) := [
  some (f2 .bcc), some (f2 .staIndy), none, none,
  some (f2 .styZpx), some (f2 .staZpx), some (f2 .stxZpy), none,
  some (f1 .tya), some (f3 .staAbsy), some (f1 .txs), none,
  none, some (f3 .staAbsx), none, none]

/-- R112: opcode bytes 0xA0 to 0xAF. -/
def opcodeRowA : List (Option Format) := [
  some (f2 .ldyImm), some (f2 .ldaIndx), some (f2 .ldxImm), none,
  some (f2 .ldyZp), some (f2 .ldaZp), some (f2 .ldxZp), none,
  some (f1 .tay), some (f2 .ldaImm), some (f1 .tax), none,
  some (f3 .ldyAbs), some (f3 .ldaAbs), some (f3 .ldxAbs), none]

/-- R112: opcode bytes 0xB0 to 0xBF. -/
def opcodeRowB : List (Option Format) := [
  some (f2 .bcs), some (f2 .ldaIndy), none, none,
  some (f2 .ldyZpx), some (f2 .ldaZpx), some (f2 .ldxZpy), none,
  some (f1 .clv), some (f3 .ldaAbsy), some (f1 .tsx), none,
  some (f3 .ldyAbsx), some (f3 .ldaAbsx), some (f3 .ldxAbsy), none]

/-- R112: opcode bytes 0xC0 to 0xCF. -/
def opcodeRowC : List (Option Format) := [
  some (f2 .cpyImm), some (f2 .cmpIndx), none, none,
  some (f2 .cpyZp), some (f2 .cmpZp), some (f2 .decZp), none,
  some (f1 .iny), some (f2 .cmpImm), some (f1 .dex), none,
  some (f3 .cpyAbs), some (f3 .cmpAbs), some (f3 .decAbs), none]

/-- R112: opcode bytes 0xD0 to 0xDF. -/
def opcodeRowD : List (Option Format) := [
  some (f2 .bne), some (f2 .cmpIndy), none, none,
  none, some (f2 .cmpZpx), some (f2 .decZpx), none,
  some (f1 .cld), some (f3 .cmpAbsy), none, none,
  none, some (f3 .cmpAbsx), some (f3 .decAbsx), none]

/-- R112: opcode bytes 0xE0 to 0xEF. -/
def opcodeRowE : List (Option Format) := [
  some (f2 .cpxImm), some (f2 .sbcIndx), none, none,
  some (f2 .cpxZp), some (f2 .sbcZp), some (f2 .incZp), none,
  some (f1 .inx), some (f2 .sbcImm), some (f1 .nop), none,
  some (f3 .cpxAbs), some (f3 .sbcAbs), some (f3 .incAbs), none]

/-- R112: opcode bytes 0xF0 to 0xFF. -/
def opcodeRowF : List (Option Format) := [
  some (f2 .beq), some (f2 .sbcIndy), none, none,
  none, some (f2 .sbcZpx), some (f2 .incZpx), none,
  some (f1 .sed), some (f3 .sbcAbsy), none, none,
  none, some (f3 .sbcAbsx), some (f3 .incAbsx), none]

/-- R112: the rows by high nibble. -/
def opcodeTable : List (List (Option Format)) := [
  opcodeRow0, opcodeRow1, opcodeRow2, opcodeRow3, opcodeRow4, opcodeRow5, opcodeRow6, opcodeRow7,
  opcodeRow8, opcodeRow9, opcodeRowA, opcodeRowB, opcodeRowC, opcodeRowD, opcodeRowE, opcodeRowF]

/-- R104, R111: the entry of an opcode byte, matched whole; none for the 105 undefined bytes (R113). -/
def formatOf (op : Byte) : Option Format :=
  (opcodeTable.getD (op.toNat / 16) []).getD (op.toNat % 16) none

/-- What decoding a byte string answers. -/
inductive Decoded where
  /-- The instruction and the bytes after it. -/
  | instr (i : Instr) (rest : List Byte)
  /-- The opcode byte is one of the 105 undefined ones (R113). -/
  | unknownOpcode (op : Byte)
  /-- The string ends before the operand bytes its opcode asks for (R101). -/
  | truncated (op : Byte)
  /-- There is no byte at all. -/
  | empty
deriving DecidableEq, Repr

/-- R100 to R108: the instruction at the head of a byte string. -/
def decode : List Byte → Decoded
  | [] => .empty
  | op :: rest =>
    match formatOf op with
    | none => .unknownOpcode op
    | some (.f1 i) => .instr i rest
    | some (.f2 mk) =>
      match rest with
      | b1 :: rest => .instr (mk b1) rest
      | [] => .truncated op
    | some (.f3 mk) =>
      match rest with
      | b1 :: b2 :: rest => .instr (mk (Machine.word b1 b2)) rest
      | _ => .truncated op

/-- R106: a 16-bit operand as its two bytes, low byte first. -/
def wordBytes (w : Word) : List Byte := [Machine.lowByte w, Machine.highByte w]

/-- R102, R111: the bytes of an instruction. -/
def encode : Instr → List Byte
  | .adcImm m => [0x69, m]
  | .adcZp b => [0x65, b]
  | .adcZpx b => [0x75, b]
  | .adcAbs w => 0x6D :: wordBytes w
  | .adcAbsx w => 0x7D :: wordBytes w
  | .adcAbsy w => 0x79 :: wordBytes w
  | .adcIndx b => [0x61, b]
  | .adcIndy b => [0x71, b]
  | .sbcImm m => [0xE9, m]
  | .sbcZp b => [0xE5, b]
  | .sbcZpx b => [0xF5, b]
  | .sbcAbs w => 0xED :: wordBytes w
  | .sbcAbsx w => 0xFD :: wordBytes w
  | .sbcAbsy w => 0xF9 :: wordBytes w
  | .sbcIndx b => [0xE1, b]
  | .sbcIndy b => [0xF1, b]
  | .andImm m => [0x29, m]
  | .andZp b => [0x25, b]
  | .andZpx b => [0x35, b]
  | .andAbs w => 0x2D :: wordBytes w
  | .andAbsx w => 0x3D :: wordBytes w
  | .andAbsy w => 0x39 :: wordBytes w
  | .andIndx b => [0x21, b]
  | .andIndy b => [0x31, b]
  | .oraImm m => [0x09, m]
  | .oraZp b => [0x05, b]
  | .oraZpx b => [0x15, b]
  | .oraAbs w => 0x0D :: wordBytes w
  | .oraAbsx w => 0x1D :: wordBytes w
  | .oraAbsy w => 0x19 :: wordBytes w
  | .oraIndx b => [0x01, b]
  | .oraIndy b => [0x11, b]
  | .eorImm m => [0x49, m]
  | .eorZp b => [0x45, b]
  | .eorZpx b => [0x55, b]
  | .eorAbs w => 0x4D :: wordBytes w
  | .eorAbsx w => 0x5D :: wordBytes w
  | .eorAbsy w => 0x59 :: wordBytes w
  | .eorIndx b => [0x41, b]
  | .eorIndy b => [0x51, b]
  | .aslAcc => [0x0A]
  | .aslZp b => [0x06, b]
  | .aslZpx b => [0x16, b]
  | .aslAbs w => 0x0E :: wordBytes w
  | .aslAbsx w => 0x1E :: wordBytes w
  | .lsrAcc => [0x4A]
  | .lsrZp b => [0x46, b]
  | .lsrZpx b => [0x56, b]
  | .lsrAbs w => 0x4E :: wordBytes w
  | .lsrAbsx w => 0x5E :: wordBytes w
  | .rolAcc => [0x2A]
  | .rolZp b => [0x26, b]
  | .rolZpx b => [0x36, b]
  | .rolAbs w => 0x2E :: wordBytes w
  | .rolAbsx w => 0x3E :: wordBytes w
  | .rorAcc => [0x6A]
  | .rorZp b => [0x66, b]
  | .rorZpx b => [0x76, b]
  | .rorAbs w => 0x6E :: wordBytes w
  | .rorAbsx w => 0x7E :: wordBytes w
  | .bcc d => [0x90, d]
  | .bcs d => [0xB0, d]
  | .beq d => [0xF0, d]
  | .bne d => [0xD0, d]
  | .bvc d => [0x50, d]
  | .bvs d => [0x70, d]
  | .bpl d => [0x10, d]
  | .bmi d => [0x30, d]
  | .jmpAbs w => 0x4C :: wordBytes w
  | .jmpInd w => 0x6C :: wordBytes w
  | .jsr w => 0x20 :: wordBytes w
  | .rts => [0x60]
  | .brk => [0x00]
  | .rti => [0x40]
  | .cmpImm m => [0xC9, m]
  | .cmpZp b => [0xC5, b]
  | .cmpZpx b => [0xD5, b]
  | .cmpAbs w => 0xCD :: wordBytes w
  | .cmpAbsx w => 0xDD :: wordBytes w
  | .cmpAbsy w => 0xD9 :: wordBytes w
  | .cmpIndx b => [0xC1, b]
  | .cmpIndy b => [0xD1, b]
  | .cpxImm m => [0xE0, m]
  | .cpxZp b => [0xE4, b]
  | .cpxAbs w => 0xEC :: wordBytes w
  | .cpyImm m => [0xC0, m]
  | .cpyZp b => [0xC4, b]
  | .cpyAbs w => 0xCC :: wordBytes w
  | .incZp b => [0xE6, b]
  | .incZpx b => [0xF6, b]
  | .incAbs w => 0xEE :: wordBytes w
  | .incAbsx w => 0xFE :: wordBytes w
  | .decZp b => [0xC6, b]
  | .decZpx b => [0xD6, b]
  | .decAbs w => 0xCE :: wordBytes w
  | .decAbsx w => 0xDE :: wordBytes w
  | .inx => [0xE8]
  | .dex => [0xCA]
  | .iny => [0xC8]
  | .dey => [0x88]
  | .tax => [0xAA]
  | .tay => [0xA8]
  | .txa => [0x8A]
  | .tya => [0x98]
  | .tsx => [0xBA]
  | .txs => [0x9A]
  | .pha => [0x48]
  | .pla => [0x68]
  | .php => [0x08]
  | .plp => [0x28]
  | .clc => [0x18]
  | .sec => [0x38]
  | .cli => [0x58]
  | .sei => [0x78]
  | .cld => [0xD8]
  | .sed => [0xF8]
  | .clv => [0xB8]
  | .nop => [0xEA]
  | .ldaImm m => [0xA9, m]
  | .ldaZp b => [0xA5, b]
  | .ldaZpx b => [0xB5, b]
  | .ldaAbs w => 0xAD :: wordBytes w
  | .ldaAbsx w => 0xBD :: wordBytes w
  | .ldaAbsy w => 0xB9 :: wordBytes w
  | .ldaIndx b => [0xA1, b]
  | .ldaIndy b => [0xB1, b]
  | .ldxImm m => [0xA2, m]
  | .ldxZp b => [0xA6, b]
  | .ldxZpy b => [0xB6, b]
  | .ldxAbs w => 0xAE :: wordBytes w
  | .ldxAbsy w => 0xBE :: wordBytes w
  | .ldyImm m => [0xA0, m]
  | .ldyZp b => [0xA4, b]
  | .ldyZpx b => [0xB4, b]
  | .ldyAbs w => 0xAC :: wordBytes w
  | .ldyAbsx w => 0xBC :: wordBytes w
  | .staZp b => [0x85, b]
  | .staZpx b => [0x95, b]
  | .staAbs w => 0x8D :: wordBytes w
  | .staAbsx w => 0x9D :: wordBytes w
  | .staAbsy w => 0x99 :: wordBytes w
  | .staIndx b => [0x81, b]
  | .staIndy b => [0x91, b]
  | .stxZp b => [0x86, b]
  | .stxZpy b => [0x96, b]
  | .stxAbs w => 0x8E :: wordBytes w
  | .styZp b => [0x84, b]
  | .styZpx b => [0x94, b]
  | .styAbs w => 0x8C :: wordBytes w
  | .bitZp b => [0x24, b]
  | .bitAbs w => 0x2C :: wordBytes w

/-- The instruction bytes of a table word: `nbits` bits numbered from the first byte's bit 0, every bit above
them 0, as three bytes in memory order. -/
def tableBytes (nbits w : Nat) : List Byte :=
  let v := w % 2 ^ nbits
  [BitVec.ofNat 8 v, BitVec.ofNat 8 (v / 256), BitVec.ofNat 8 (v / 65536)]

/-- The instruction of a table word, as the decoder reads its bytes. -/
def decodeTableWord (nbits w : Nat) : Option Instr :=
  match decode (tableBytes nbits w) with
  | .instr i _ => some i
  | _ => none

end Sys2Proof
end

