-- ==== Sys2Proof/Machine/Fetch.lean ====
section
/-! DEFINITION. Fetching an instruction's bytes through `memRead` (R87, R100, R145), and placing an
instruction where the next step fetches it. -/

namespace Sys2Proof.Machine

/-- What the fetch at PC finds, with the state after its reads. -/
inductive Fetched where
  | instr (i : Instr) (s : State)
  | undefined (op : Byte) (s : State)
deriving DecidableEq, Repr

/-- R100 (1) to (3), R145: the opcode byte, then the operand bytes its format asks for, each by `memRead`;
an undefined opcode is found out before any operand byte is read (R381). -/
def fetch (s : State) : Fetched :=
  let op := memRead s.pc s
  match formatOf op.1 with
  | none => .undefined op.1 op.2
  | some (.f1 i) => .instr i op.2
  | some (.f2 mk) =>
    let b1 := memRead (s.pc + 1) op.2
    .instr (mk b1.1) b1.2
  | some (.f3 mk) =>
    let b1 := memRead (s.pc + 1) op.2
    let b2 := memRead (s.pc + 2) b1.2
    .instr (mk (word b1.1 b2.1)) b2.2

/-- The three bytes from `pc` are storage. -/
def storageAt (pc : Word) : Bool :=
  classify pc == .plain && classify (pc + 1) == .plain && classify (pc + 2) == .plain

/-- Where an instruction can be placed for the next fetch: at PC, or at 0x8000 where PC's bytes are device
registers, which hold no bytes (log entry 9). -/
def fetchPlace (s : State) : Word := if storageAt s.pc then s.pc else 0x8000

/-- The bytes put into CPU memory one by one from `a` upward, modulo 65536. -/
def placeBytes : Memory → Word → List Byte → Memory
  | m, _, [] => m
  | m, a, b :: bs => placeBytes (memSet m a.toNat b) (a + 1) bs

end Sys2Proof.Machine
end

