-- ==== Sys2Proof/Machine/Tile.lean ====
section
/-! DEFINITION. The tile/palette decoder (51_tile_palette_decoder.md): pure functions of PPU memory. -/

namespace Sys2Proof.Machine

/-- R310, R314: the two layers. -/
inductive Layer where
  | background
  | sprite
deriving DecidableEq, Repr

/-- R311: row `r` of the low plane of tile `t`. -/
def lowPlane (mem : Memory) (table : Nat) (t : Byte) (r : Nat) : Byte := ppuRead mem (table + 16 * t.toNat + r)

/-- R311: row `r` of the high plane of tile `t`. -/
def highPlane (mem : Memory) (table : Nat) (t : Byte) (r : Nat) : Byte := ppuRead mem (table + 16 * t.toNat + 8 + r)

/-- R312, R313: `TilePixel(PT, t, c, r)`, the colour-in-group index. -/
def tilePixel (mem : Memory) (table : Nat) (t : Byte) (c r : Nat) : BitVec 2 :=
  BitVec.ofBool ((highPlane mem table t r).getLsbD (7 - c)) ++ BitVec.ofBool ((lowPlane mem table t r).getLsbD (7 - c))

/-- R73: the palette RAM's place in PPU memory. -/
def paletteBase : Nat := 0x3F00

/-- R315: `Colour(pi)`, the palette RAM byte reduced to six bits. -/
def colour (mem : Memory) (pi : Nat) : BitVec 6 := (ppuRead mem (paletteBase + pi)).setWidth 6

/-- R314, R316: the palette RAM index of a pixel; none where a sprite's pixel is transparent. -/
def paletteIndex (layer : Layer) (g ci : BitVec 2) : Option Nat :=
  match layer with
  | .background => if ci = 0 then some 0 else some (4 * g.toNat + ci.toNat)
  | .sprite => if ci = 0 then none else some (16 + 4 * g.toNat + ci.toNat)

/-- R317: one pixel of the decoder's output for a tile. -/
def tileColour (mem : Memory) (table : Nat) (t : Byte) (layer : Layer) (g : BitVec 2) (c r : Nat) :
    Option (BitVec 6) :=
  (paletteIndex layer g (tilePixel mem table t c r)).map (colour mem)

/-- R310, R317: the decoder's output: the 8 by 8 grid, `[r][c]`. -/
def tileGrid (mem : Memory) (table : Nat) (t : Byte) (layer : Layer) (g : BitVec 2) :
    Vector (Vector (Option (BitVec 6)) 8) 8 :=
  Vector.ofFn fun r => Vector.ofFn fun c => tileColour mem table t layer g c.val r.val

end Sys2Proof.Machine
end

