-- ==== Sys2Proof/Machine/Compositor.lean ====
section
/-! DEFINITION. The frame compositor (52_frame_compositor.md): the picture as a function of a snapshot
(R330 to R344) and the compositor's three steps (R350 to R354). -/

namespace Sys2Proof.Machine

/-- R330: what a picture depends on. -/
structure Snapshot where
  mem : Memory
  oam : Memory
  bgPt : Bool
  sprPt : Bool
deriving DecidableEq, Repr

/-- R330: the snapshot of a state. -/
def snapshotOf (s : State) : Snapshot where
  mem := s.ppuMem
  oam := s.oam
  bgPt := s.ppuctrl.getLsbD 4
  sprPt := s.ppuctrl.getLsbD 3

/-- R273: a pattern table's base by its select bit. -/
def patternTable (sel : Bool) : Nat := if sel then 0x1000 else 0

/-- R331: the background tile index at (x, y). -/
def bgTile (q : Snapshot) (x y : Nat) : Byte := ppuRead q.mem (0x2000 + 32 * (y / 8) + x / 8)

/-- R332: the background palette group at (x, y), of the 2 by 2-tile quadrant of the attribute cell. -/
def bgGroup (q : Snapshot) (x y : Nat) : BitVec 2 :=
  let tx := x / 8
  let ty := y / 8
  let attr := ppuRead q.mem (0x23C0 + 8 * (ty / 4) + tx / 4)
  (attr >>> (2 * (tx / 2 % 2) + 4 * (ty / 2 % 2))).setWidth 2

/-- R334: `ci_bg`. -/
def bgIndex (q : Snapshot) (x y : Nat) : BitVec 2 :=
  tilePixel q.mem (patternTable q.bgPt) (bgTile q x y) (x % 8) (y % 8)

/-- R334: `bg_opaque`. -/
def bgOpaque (q : Snapshot) (x y : Nat) : Bool := bgIndex q x y != 0

/-- R334: `bg_colour`. -/
def bgColour (q : Snapshot) (x y : Nat) : BitVec 6 :=
  if bgIndex q x y = 0 then colour q.mem 0
  else colour q.mem (4 * (bgGroup q x y).toNat + (bgIndex q x y).toNat)

/-- R335: a sprite record. -/
structure Sprite where
  y : Byte
  tile : Byte
  attr : Byte
  x : Byte
deriving DecidableEq, Repr

/-- R44, R335: record `i` of OAM. -/
def spriteAt (q : Snapshot) (i : Nat) : Sprite where
  y := memGet q.oam (4 * i)
  tile := memGet q.oam (4 * i + 1)
  attr := memGet q.oam (4 * i + 2)
  x := memGet q.oam (4 * i + 3)

/-- R338: the palette group `gs`. -/
def spriteGroup (r : Sprite) : BitVec 2 := r.attr.setWidth 2

/-- R338: the priority bit, true when the sprite is behind the background. -/
def spriteBehind (r : Sprite) : Bool := r.attr.getLsbD 5

/-- R335: (x, y) is in the record's rectangle, in integers without wrap. -/
def inSprite (r : Sprite) (x y : Nat) : Bool :=
  decide (r.x.toNat ≤ x ∧ x ≤ r.x.toNat + 7 ∧ r.y.toNat ≤ y ∧ y ≤ r.y.toNat + 7)

/-- R337: `ci_i` at (x, y), for a pixel of the rectangle. -/
def spriteIndex (q : Snapshot) (r : Sprite) (x y : Nat) : BitVec 2 :=
  let c := x - r.x.toNat
  let row := y - r.y.toNat
  tilePixel q.mem (patternTable q.sprPt) r.tile
    (if r.attr.getLsbD 6 then 7 - c else c) (if r.attr.getLsbD 7 then 7 - row else row)

/-- R337, R339: record `i` covers (x, y) and is opaque there. -/
def spriteOpaque (q : Snapshot) (i x y : Nat) : Bool :=
  inSprite (spriteAt q i) x y && spriteIndex q (spriteAt q i) x y != 0

/-- R337: the colour of an opaque sprite pixel. -/
def spriteColour (q : Snapshot) (i x y : Nat) : BitVec 6 :=
  colour q.mem (16 + 4 * (spriteGroup (spriteAt q i)).toNat + (spriteIndex q (spriteAt q i) x y).toNat)

/-- R339, D28: the sprite pixel at (x, y), of the lowest record that is opaque there. -/
def selectedSprite (q : Snapshot) (x y : Nat) : Option Nat :=
  (List.range Config.spriteCount).find? fun i => spriteOpaque q i x y

/-- R340, R341: `Pixel(x, y)`. -/
def pixel (q : Snapshot) (x y : Nat) : BitVec 6 :=
  match selectedSprite q x y with
  | none => bgColour q x y
  | some i =>
    if spriteBehind (spriteAt q i) && bgOpaque q x y then bgColour q x y else spriteColour q i x y

/-- R342: `Hit0`, looked for in the 64 pixels of record 0's rectangle that lie in the frame. -/
def spriteZeroHit (q : Snapshot) : Bool :=
  (List.range 8).any fun row => (List.range 8).any fun col =>
    let x := (spriteAt q 0).x.toNat + col
    let y := (spriteAt q 0).y.toNat + row
    decide (x < Config.frameWidth) && decide (y < Config.frameHeight) && spriteOpaque q 0 x y && bgOpaque q x y

/-- R344, R350: the whole frame of a snapshot. -/
def frameOf (q : Snapshot) : Frame :=
  Vector.ofFn fun y => Vector.ofFn fun x => pixel q x.val y.val

/-- R350: the step `Render`. -/
def render (s : State) : State :=
  let q := snapshotOf s
  { s with framebuf := frameOf q, spr0hit := s.spr0hit || spriteZeroHit q, phase := .rendered }

/-- R352: the step `VBlankBegin`; the frame goes to the host. -/
def vblankBegin (s : State) : State :=
  { s with vblank := true, presented := s.framebuf :: s.presented, phase := .inVBlank }

/-- R353: the step `VBlankEnd`. -/
def vblankEnd (s : State) : State :=
  { s with vblank := false, spr0hit := false, phase := .idle }

/-- R354: the one compositor step that is enabled. -/
def compositorCycle (s : State) : State :=
  match s.phase with
  | .idle => render s
  | .rendered => vblankBegin s
  | .inVBlank => vblankEnd s

end Sys2Proof.Machine
end

