-- ==== Sys2Proof/Machine/Schedule.lean ====
section
/-! DEFINITION. Which agent moves next (R16, R354, R356, R421, R430). The spec leaves the schedule open: every weakly
fair interleaving. Here it is a sequence of draws: after every compositor step a draw gives how many CPU steps come
before the next one, any number, zero included; and another draw bounds how many compositor steps may pass until one
is followed by a CPU step, which is the CPU's weak fairness (log entry 1). After `VBlankBegin` the number of CPU steps
is at least `VBlankMinCpuSteps` (log entry 2). -/

namespace Sys2Proof.Machine

/-- R39, R372: a halted CPU has no step; else the CPU moves while its budget lasts. -/
def nextAgent (s : State) : Agent :=
  match s.halted with
  | some _ => .compositor
  | none => if s.cpuLeft = 0 then .compositor else .cpu

/-- R421: the CPU steps guaranteed after the compositor step that led to this phase. -/
def guaranteedSteps : Phase → Nat
  | .inVBlank => Config.vblankMinCpuSteps
  | .idle | .rendered => 0

/-- R354, R356, R421: the CPU steps that come after the compositor step that led to `s`: the guaranteed ones and as
many more as the draw says; at least one where the CPU is due. -/
def cpuBudget (s : State) : Nat :=
  let n := guaranteedSteps s.phase + Config.cpuRun s.draws
  if s.compositorLeft = 0 then max 1 n else n

/-- R356: the compositor steps that may pass before the CPU is due again: one fewer, or a fresh draw once it was. -/
def compositorBudget (s : State) : Nat :=
  if s.compositorLeft = 0 then Config.compositorRun s.draws else s.compositorLeft - 1

/-- A compositor step (R354), and the draws of the schedule's next numbers. -/
def compositorStep (s : State) : State :=
  let t := compositorCycle s
  { t with cpuLeft := cpuBudget t, compositorLeft := compositorBudget t, draws := t.draws + 1 }

/-- The state in which a CPU step runs: one of its budget spent. -/
def spendCpuStep (s : State) : State := { s with cpuLeft := s.cpuLeft - 1 }

end Sys2Proof.Machine
end

