-- ==== Sys2Proof/Machine/Step.lean ====
section
/-! DEFINITION. One step of the machine (R16, R100, R354): the agent whose turn it is takes one atomic step. -/

namespace Sys2Proof.Machine

/-- R100: one CPU step, from the fetch to the new PC. -/
def cpuStep (s : State) : Host.Outcome State Fault Refusal :=
  match fetch s with
  | .instr i t => exec i t
  | .undefined op t => .next (undefinedOpcode Config.illegalOpcodePolicy op t)

/-- One step of the agent that moves next. -/
def step (s : State) : Host.Outcome State Fault Refusal :=
  match nextAgent s with
  | .cpu => cpuStep (spendCpuStep s)
  | .compositor => .next (compositorStep s)

/-- `s` with a table word's instruction where the next step fetches it: its bytes at PC (log entry 9), the CPU
not halted and one CPU step in its budget, so that the very next step is the CPU's. -/
def State.withFetchWord (s : State) (nbits w : Nat) : State :=
  { s with
    pc := fetchPlace s
    cpuMem := placeBytes s.cpuMem (fetchPlace s) (tableBytes nbits w)
    halted := none
    cpuLeft := 1 }

end Sys2Proof.Machine
end

