-- ==== Sys2Proof/Machine/Boot.lean ====
section
/-! DEFINITION. The cartridge-image boot interface (70_reset_and_hazards.md sections 1 and 2): validation,
the copies, and the state after reset. -/

namespace Sys2Proof.Machine

/-- R411: the header's length. -/
def headerBytes : Nat := 16

/-- R411: the program-bank count `P`. -/
def programBanks (img : List Byte) : Nat := (img.getD 4 0).toNat

/-- R411: the pattern-bank count `C`. -/
def patternBanks (img : List Byte) : Nat := (img.getD 5 0).toNat

/-- R411, R416: the mirroring flag, `img[6][0]`. -/
def imageMirroring (img : List Byte) : Mirroring := if (img.getD 6 0).getLsbD 0 then .vertical else .horizontal

/-- R412: the image is accepted. -/
def imageValid (img : List Byte) : Bool :=
  decide (headerBytes ≤ img.length) &&
  decide (programBanks img = 1 ∨ programBanks img = 2) &&
  decide (patternBanks img ≤ 1) &&
  decide (headerBytes + Config.prgBankBytes * programBanks img + Config.chrBankBytes * patternBanks img ≤ img.length)

/-- R411: the program data. -/
def programBytes (img : List Byte) : List Byte := (img.drop headerBytes).take (Config.prgBankBytes * programBanks img)

/-- R411: the pattern data. -/
def patternBytes (img : List Byte) : List Byte :=
  (img.drop (headerBytes + Config.prgBankBytes * programBanks img)).take (Config.chrBankBytes * patternBanks img)

/-- R414: with one bank, its top 16 bytes, for 0xFFF0 to 0xFFFF. -/
def vectorBytes (img : List Byte) : List Byte :=
  if programBanks img = 1 then (programBytes img).drop 0x3FF0 else []

/-- R413, R414: the CPU memory the loader leaves. -/
def imageCpuMem (img : List Byte) : Memory :=
  memOfBytes Config.programRomBase (programBytes img) ++ memOfBytes 0xFFF0 (vectorBytes img)

/-- R415: the PPU memory the loader leaves. -/
def imagePpuMem (img : List Byte) : Memory := memOfBytes 0 (patternBytes img)

/-- R400: power-on with an image: `RomFormatError` (R373, R412), or the state in which the agents begin. -/
def boot (img : List Byte) : Out :=
  if imageValid img then .next (State.powerOn (imageCpuMem img) (imagePpuMem img) (imageMirroring img))
  else .fault .romFormatError

end Sys2Proof.Machine
end

