-- ==== Sys2Proof/Safety.lean ====
section
/-! DEFINITION. The vocabulary of the claims: a safe run, the machine's invariant, the forms of an instruction
with their opcode bytes, and what "unchanged" means. -/

namespace Sys2Proof.Machine

/-- R372: a run is good so far when no `UnknownOpcode` has been raised. -/
def Unfaulted (s : State) : Prop := s.halted = none

/-- R432, D36: the end-of-run convention of the spec's own programs: the next instruction is a JMP to itself.
`EndOfRun` is open; a claim that wants another end states it. -/
def AtSelfJump (s : State) : Prop := fetch s = .instr (.jmpAbs s.pc) s

/-- The CPU cells that the register window and the controller port hide are never written (R53). -/
def deviceCellsEmpty (m : Memory) : Bool := m.all fun c => classify (BitVec.ofNat 16 c.1) == .plain

/-- What every state of a run keeps: canonical memories (R53, R48, R44), the constant bits of P (R33, R34),
the overflow bit (R343), and what the phase says of the status bits and of the presented frame (R350 to R354). -/
structure StateInv (s : State) : Prop where
  cpuMem_wf : Memory.wf Config.cpuMemBytes s.cpuMem = true
  ppuMem_wf : Memory.wf Config.ppuMemBytes s.ppuMem = true
  oam_wf : Memory.wf Config.oamBytes s.oam = true
  devices_empty : deviceCellsEmpty s.cpuMem = true
  break_clear : flagOf .b s.p = false
  unused_set : flagOf .u s.p = true
  overflow_clear : s.sprovf = false
  vblank_phase : s.vblank = true → s.phase = .inVBlank
  hit_phase : s.spr0hit = true → s.phase ≠ .idle
  presented_frame : s.phase = .inVBlank → s.presented.head? = some s.framebuf

/-- The flags outside `written` are as before. -/
def FlagsKept (written : List Flag) (s t : State) : Prop := ∀ f, f ∉ written → flagOf f t.p = flagOf f s.p

/-- Every byte of the three memories reads as before. -/
def MemoryKept (s t : State) : Prop :=
  (∀ n, memGet t.cpuMem n = memGet s.cpuMem n) ∧ (∀ n, memGet t.ppuMem n = memGet s.ppuMem n) ∧
    (∀ n, memGet t.oam n = memGet s.oam n)

/-- Every CPU byte outside the listed addresses, and every byte of PPU memory and OAM, reads as before. -/
def MemoryKeptBut (stored : List Nat) (s t : State) : Prop :=
  (∀ n, n ∉ stored → memGet t.cpuMem n = memGet s.cpuMem n) ∧ (∀ n, memGet t.ppuMem n = memGet s.ppuMem n) ∧
    (∀ n, memGet t.oam n = memGet s.oam n)

/-- The stack cell of an S value: 0x0100 + S (R38). -/
def stackCell (sp : Byte) : Nat := 256 + sp.toNat

/-- R113: the undefined opcode bytes. -/
def undefinedOpcodes : List Byte := [
  0x02, 0x03, 0x04, 0x07, 0x0B, 0x0C, 0x0F, 0x12, 0x13, 0x14, 0x17, 0x1A, 0x1B, 0x1C, 0x1F,
  0x22, 0x23, 0x27, 0x2B, 0x2F, 0x32, 0x33, 0x34, 0x37, 0x3A, 0x3B, 0x3C, 0x3F, 0x42, 0x43,
  0x44, 0x47, 0x4B, 0x4F, 0x52, 0x53, 0x54, 0x57, 0x5A, 0x5B, 0x5C, 0x5F, 0x62, 0x63, 0x64,
  0x67, 0x6B, 0x6F, 0x72, 0x73, 0x74, 0x77, 0x7A, 0x7B, 0x7C, 0x7F, 0x80, 0x82, 0x83, 0x87,
  0x89, 0x8B, 0x8F, 0x92, 0x93, 0x97, 0x9B, 0x9C, 0x9E, 0x9F, 0xA3, 0xA7, 0xAB, 0xAF, 0xB2,
  0xB3, 0xB7, 0xBB, 0xBF, 0xC2, 0xC3, 0xC7, 0xCB, 0xCF, 0xD2, 0xD3, 0xD4, 0xD7, 0xDA, 0xDB,
  0xDC, 0xDF, 0xE2, 0xE3, 0xE7, 0xEB, 0xEF, 0xF2, 0xF3, 0xF4, 0xF7, 0xFA, 0xFB, 0xFC, 0xFF]

/-- A form of an instruction: its opcode byte, the instruction, the operand. -/
structure Form where
  opcode : Byte
  instr : Instr
  operand : Operand
deriving DecidableEq, Repr

/-- R102: the bytes after the opcode. -/
def operandBytes : Operand → List Byte
  | .imm b | .zp b | .zpx b | .zpy b | .indx b | .indy b => [b]
  | .abs w | .absx w | .absy w => wordBytes w

/-- The form's opcode and operand bytes decode to its instruction, whatever follows. -/
def Form.Encodes (f : Form) : Prop :=
  ∀ rest, decode (f.opcode :: (operandBytes f.operand ++ rest)) = .instr f.instr rest

/-- An instruction without operand byte and its opcode. -/
def EncodesAlone (op : Byte) (i : Instr) : Prop := ∀ rest, decode (op :: rest) = .instr i rest

/-- R150 to R163, R200 to R206, R250 to R256: the forms that name a data byte, for every operand byte `b` and
word `w`. -/
def formsOf (k : Mnemonic) (b : Byte) (w : Word) : List Form :=
  match k with
  | .adc => [⟨0x69, .adcImm b, .imm b⟩, ⟨0x65, .adcZp b, .zp b⟩, ⟨0x75, .adcZpx b, .zpx b⟩,
      ⟨0x6D, .adcAbs w, .abs w⟩, ⟨0x7D, .adcAbsx w, .absx w⟩, ⟨0x79, .adcAbsy w, .absy w⟩,
      ⟨0x61, .adcIndx b, .indx b⟩, ⟨0x71, .adcIndy b, .indy b⟩]
  | .sbc => [⟨0xE9, .sbcImm b, .imm b⟩, ⟨0xE5, .sbcZp b, .zp b⟩, ⟨0xF5, .sbcZpx b, .zpx b⟩,
      ⟨0xED, .sbcAbs w, .abs w⟩, ⟨0xFD, .sbcAbsx w, .absx w⟩, ⟨0xF9, .sbcAbsy w, .absy w⟩,
      ⟨0xE1, .sbcIndx b, .indx b⟩, ⟨0xF1, .sbcIndy b, .indy b⟩]
  | .and => [⟨0x29, .andImm b, .imm b⟩, ⟨0x25, .andZp b, .zp b⟩, ⟨0x35, .andZpx b, .zpx b⟩,
      ⟨0x2D, .andAbs w, .abs w⟩, ⟨0x3D, .andAbsx w, .absx w⟩, ⟨0x39, .andAbsy w, .absy w⟩,
      ⟨0x21, .andIndx b, .indx b⟩, ⟨0x31, .andIndy b, .indy b⟩]
  | .ora => [⟨0x09, .oraImm b, .imm b⟩, ⟨0x05, .oraZp b, .zp b⟩, ⟨0x15, .oraZpx b, .zpx b⟩,
      ⟨0x0D, .oraAbs w, .abs w⟩, ⟨0x1D, .oraAbsx w, .absx w⟩, ⟨0x19, .oraAbsy w, .absy w⟩,
      ⟨0x01, .oraIndx b, .indx b⟩, ⟨0x11, .oraIndy b, .indy b⟩]
  | .eor => [⟨0x49, .eorImm b, .imm b⟩, ⟨0x45, .eorZp b, .zp b⟩, ⟨0x55, .eorZpx b, .zpx b⟩,
      ⟨0x4D, .eorAbs w, .abs w⟩, ⟨0x5D, .eorAbsx w, .absx w⟩, ⟨0x59, .eorAbsy w, .absy w⟩,
      ⟨0x41, .eorIndx b, .indx b⟩, ⟨0x51, .eorIndy b, .indy b⟩]
  | .asl => [⟨0x06, .aslZp b, .zp b⟩, ⟨0x16, .aslZpx b, .zpx b⟩, ⟨0x0E, .aslAbs w, .abs w⟩,
      ⟨0x1E, .aslAbsx w, .absx w⟩]
  | .lsr => [⟨0x46, .lsrZp b, .zp b⟩, ⟨0x56, .lsrZpx b, .zpx b⟩, ⟨0x4E, .lsrAbs w, .abs w⟩,
      ⟨0x5E, .lsrAbsx w, .absx w⟩]
  | .rol => [⟨0x26, .rolZp b, .zp b⟩, ⟨0x36, .rolZpx b, .zpx b⟩, ⟨0x2E, .rolAbs w, .abs w⟩,
      ⟨0x3E, .rolAbsx w, .absx w⟩]
  | .ror => [⟨0x66, .rorZp b, .zp b⟩, ⟨0x76, .rorZpx b, .zpx b⟩, ⟨0x6E, .rorAbs w, .abs w⟩,
      ⟨0x7E, .rorAbsx w, .absx w⟩]
  | .cmp => [⟨0xC9, .cmpImm b, .imm b⟩, ⟨0xC5, .cmpZp b, .zp b⟩, ⟨0xD5, .cmpZpx b, .zpx b⟩,
      ⟨0xCD, .cmpAbs w, .abs w⟩, ⟨0xDD, .cmpAbsx w, .absx w⟩, ⟨0xD9, .cmpAbsy w, .absy w⟩,
      ⟨0xC1, .cmpIndx b, .indx b⟩, ⟨0xD1, .cmpIndy b, .indy b⟩]
  | .cpx => [⟨0xE0, .cpxImm b, .imm b⟩, ⟨0xE4, .cpxZp b, .zp b⟩, ⟨0xEC, .cpxAbs w, .abs w⟩]
  | .cpy => [⟨0xC0, .cpyImm b, .imm b⟩, ⟨0xC4, .cpyZp b, .zp b⟩, ⟨0xCC, .cpyAbs w, .abs w⟩]
  | .inc => [⟨0xE6, .incZp b, .zp b⟩, ⟨0xF6, .incZpx b, .zpx b⟩, ⟨0xEE, .incAbs w, .abs w⟩,
      ⟨0xFE, .incAbsx w, .absx w⟩]
  | .dec => [⟨0xC6, .decZp b, .zp b⟩, ⟨0xD6, .decZpx b, .zpx b⟩, ⟨0xCE, .decAbs w, .abs w⟩,
      ⟨0xDE, .decAbsx w, .absx w⟩]
  | .lda => [⟨0xA9, .ldaImm b, .imm b⟩, ⟨0xA5, .ldaZp b, .zp b⟩, ⟨0xB5, .ldaZpx b, .zpx b⟩,
      ⟨0xAD, .ldaAbs w, .abs w⟩, ⟨0xBD, .ldaAbsx w, .absx w⟩, ⟨0xB9, .ldaAbsy w, .absy w⟩,
      ⟨0xA1, .ldaIndx b, .indx b⟩, ⟨0xB1, .ldaIndy b, .indy b⟩]
  | .ldx => [⟨0xA2, .ldxImm b, .imm b⟩, ⟨0xA6, .ldxZp b, .zp b⟩, ⟨0xB6, .ldxZpy b, .zpy b⟩,
      ⟨0xAE, .ldxAbs w, .abs w⟩, ⟨0xBE, .ldxAbsy w, .absy w⟩]
  | .ldy => [⟨0xA0, .ldyImm b, .imm b⟩, ⟨0xA4, .ldyZp b, .zp b⟩, ⟨0xB4, .ldyZpx b, .zpx b⟩,
      ⟨0xAC, .ldyAbs w, .abs w⟩, ⟨0xBC, .ldyAbsx w, .absx w⟩]
  | .sta => [⟨0x85, .staZp b, .zp b⟩, ⟨0x95, .staZpx b, .zpx b⟩, ⟨0x8D, .staAbs w, .abs w⟩,
      ⟨0x9D, .staAbsx w, .absx w⟩, ⟨0x99, .staAbsy w, .absy w⟩, ⟨0x81, .staIndx b, .indx b⟩,
      ⟨0x91, .staIndy b, .indy b⟩]
  | .stx => [⟨0x86, .stxZp b, .zp b⟩, ⟨0x96, .stxZpy b, .zpy b⟩, ⟨0x8E, .stxAbs w, .abs w⟩]
  | .sty => [⟨0x84, .styZp b, .zp b⟩, ⟨0x94, .styZpx b, .zpx b⟩, ⟨0x8C, .styAbs w, .abs w⟩]
  | .bit => [⟨0x24, .bitZp b, .zp b⟩, ⟨0x2C, .bitAbs w, .abs w⟩]
  | .bcc | .bcs | .beq | .bne | .bvc | .bvs | .bpl | .bmi | .jmp | .jsr | .rts | .brk | .rti | .inx
  | .dex | .iny | .dey | .tax | .tay | .txa | .tya | .tsx | .txs | .pha | .pla | .php | .plp | .clc
  | .sec | .cli | .sei | .cld | .sed | .clv | .nop => []

/-- R160 to R163: what a shift or rotate makes of the number `v` and the carry `c`. -/
def shiftResult (k : Mnemonic) (v c : Nat) : Nat :=
  match k with
  | .asl => 2 * v % 256
  | .rol => (2 * v + c) % 256
  | .ror => v / 2 + 128 * c
  | _ => v / 2

/-- R160 to R163: the bit a shift or rotate moves into P.C. -/
def shiftCarry (k : Mnemonic) (v : Nat) : Bool :=
  match k with
  | .asl | .rol => decide (128 ≤ v)
  | _ => decide (v % 2 = 1)

/-- R172 to R178: the flag a branch tests and the value it is taken on. -/
def branchTest (k : Mnemonic) : Flag × Bool :=
  match k with
  | .bcc => (.c, false)
  | .bcs => (.c, true)
  | .beq => (.z, true)
  | .bne => (.z, false)
  | .bvc => (.v, false)
  | .bvs => (.v, true)
  | .bpl => (.n, false)
  | _ => (.n, true)

end Sys2Proof.Machine
end

