-- ==== Sys2Proof/Certificates/Slice0/Obligations.lean ====
section
/-! DEFINITION. The statements for the provers. Each docstring names the rules of the spec it formalises; a
statement about a read or a write of an operand says the state after the access through `memRead` and
`memWrite`, whose own effects are stated in the section on the address space. The opcode bytes in the encoding clauses
are those of R111, the spec's own decision D1. -/

open Sys2Proof
open Sys2Proof.Machine

/-! ### Encoding -/

/-- R102, R111: the encoding of every instruction, every operand at every value, decodes to it, and the bytes after
it are left. -/
def Obligations.DecodeOfEncodeIsTheInstruction : Prop :=
  ∀ (i : Instr) (rest : List Byte), decode (encode i ++ rest) = .instr i rest

/-- R104, R111: bytes that decode to an instruction are its encoding: each byte has one meaning. -/
def Obligations.DecodedBytesAreTheEncoding : Prop :=
  ∀ (bytes : List Byte) (i : Instr) (rest : List Byte), decode bytes = .instr i rest → bytes = encode i ++ rest

/-- R113, R115: exactly the 105 listed bytes are rejected, by name, and every other opcode byte decodes with any
two operand bytes. -/
def Obligations.UndefinedBytesAreRejected : Prop :=
  undefinedOpcodes.length = 105 ∧ undefinedOpcodes.Nodup ∧
    (∀ (op : Byte) (rest : List Byte), op ∈ undefinedOpcodes → decode (op :: rest) = .unknownOpcode op) ∧
    (∀ (op b1 b2 : Byte) (rest : List Byte), op ∉ undefinedOpcodes →
      ∃ i left, decode (op :: b1 :: b2 :: rest) = .instr i left)

/-- R111: words written out byte by byte, one at least of each family, with K1 to K8 of the spec's test vectors among
them. -/
def Obligations.WorkedWordsDecode : Prop :=
  decode [0xEA] = .instr .nop [] ∧ decode [0xA9, 0x01] = .instr (.ldaImm 0x01) [] ∧
    decode [0x8D, 0x06, 0x20] = .instr (.staAbs 0x2006) [] ∧ decode [0x6C, 0xFC, 0xFF] = .instr (.jmpInd 0xFFFC) [] ∧
    decode [0x0A] = .instr .aslAcc [] ∧ decode [0xB1, 0x10] = .instr (.ldaIndy 0x10) [] ∧
    decode [0x96, 0x10] = .instr (.stxZpy 0x10) [] ∧
    decode [0x00] = .instr .brk [] ∧ decode [0x90, 0x05] = .instr (.bcc 0x05) [] ∧
    decode [0x7D, 0x1A, 0x80] = .instr (.adcAbsx 0x801A) [] ∧ decode [0xE0, 0x05, 0xD0] = .instr (.cpxImm 0x05) [0xD0] ∧
    decode [0x9A] = .instr .txs []

/-- R101: the opcode byte alone fixes the length, 1 to 3 bytes, and that many bytes are consumed. -/
def Obligations.OpcodeFixesTheLength : Prop :=
  ∀ (op : Byte) (r₁ r₂ left₁ left₂ : List Byte) (i₁ i₂ : Instr),
    decode (op :: r₁) = .instr i₁ left₁ → decode (op :: r₂) = .instr i₂ left₂ →
      i₁.length = i₂.length ∧ 1 ≤ i₁.length ∧ i₁.length ≤ 3 ∧ (op :: r₁).length = i₁.length + left₁.length

/-! ### The step -/

/-- R100, R145: when the CPU has the move and the bytes that `memRead` gives at PC, PC + 1 and PC + 2 decode to `i`,
the step is `exec i` in the state after the reads of as many bytes as `i` is long; one CPU step of the budget is
spent (log entry 1), and nothing else is put around `exec`. -/
def Obligations.StepRunsTheDecodedInstruction : Prop :=
  ∀ (s : State) (left : Nat) (i : Instr) (rest : List Byte), s.halted = none → s.cpuLeft = left + 1 →
    let op := memRead s.pc { s with cpuLeft := left }
    let b1 := memRead (s.pc + 1) op.2
    let b2 := memRead (s.pc + 2) b1.2
    decode [op.1, b1.1, b2.1] = .instr i rest →
      step s = exec i (if i.length = 1 then op.2 else if i.length = 2 then b1.2 else b2.2)

/-- R64, R87, R100: the same where PC lies in storage: the bytes are those the CPU memory holds, and the fetch
changes nothing. -/
def Obligations.StepFromStorageRunsTheBytesThere : Prop :=
  ∀ (s : State) (left : Nat) (i : Instr) (rest : List Byte), s.halted = none → s.cpuLeft = left + 1 →
    classify s.pc = .plain → classify (s.pc + 1) = .plain → classify (s.pc + 2) = .plain →
    decode [memGet s.cpuMem s.pc.toNat, memGet s.cpuMem (s.pc + 1).toNat, memGet s.cpuMem (s.pc + 2).toNat] =
      .instr i rest →
      step s = exec i { s with cpuLeft := left }

/-- R114: an undefined byte at PC: HALTED records it and its address; the one read is the opcode fetch; no other state
the spec gives the machine changes. That the fault is a next state is the model's choice (log entry 13), and one CPU step
of the model's own budget is spent (log entry 1). Under the alternative policy `nop1` the byte acts as NOP. -/
def Obligations.UndefinedOpcodeHaltsTheCpu : Prop :=
  ∀ (s : State) (left : Nat), s.halted = none → s.cpuLeft = left + 1 →
    let op := memRead s.pc { s with cpuLeft := left }
    op.1 ∈ undefinedOpcodes →
      step s = .next { op.2 with halted := some (.unknownOpcode op.1 s.pc) } ∧
        ∀ t : State, exec .nop t = .next (undefinedOpcode .nop1 op.1 t)

/-- R39, R372: once halted the CPU takes no step: over any number of steps HALTED, the CPU's registers and the CPU
memory stay, while every step is the compositor's. -/
def Obligations.HaltedCpuNeverMovesAgain : Prop :=
  ∀ (s : State) (f : CpuFault) (k : Nat), s.halted = some f →
    step s = .next (compositorStep s) ∧
      ∃ t : State, Sys2Proof.core.run k s = .next t ∧ t.halted = some f ∧ t.a = s.a ∧ t.x = s.x ∧ t.y = s.y ∧
        t.sp = s.sp ∧ t.p = s.p ∧ t.pc = s.pc ∧ t.cpuMem = s.cpuMem ∧ t.ppuMem = s.ppuMem ∧ t.oam = s.oam

/-- R370, R372, R375: no instruction and no step of a running machine answers the model's `fault` or `refused`. The
spec's one fatal fault, `UnknownOpcode`, is no exception to it by the model's choice: its outcome is a next state with
HALTED set, after which the compositor goes on (log entry 13). -/
def Obligations.EveryStepAnswersANextState : Prop :=
  (∀ (i : Instr) (s : State), ∃ t, exec i s = .next t) ∧ ∀ s : State, ∃ t, step s = .next t

/-! ### The invariant and reset -/

/-- R33, R34, R343, R350 to R354, R53: every step keeps the invariant, from every state that has it. -/
def Obligations.StepKeepsTheInvariant : Prop :=
  ∀ s t : State, StateInv s → step s = .next t → StateInv t

/-- R55: the state after reset has the invariant. -/
def Obligations.ResetHasTheInvariant : Prop := StateInv State.reset

/-- R400, R413 to R415: so has the state in which any accepted cartridge image starts. -/
def Obligations.BootedMachineHasTheInvariant : Prop :=
  ∀ (img : List Byte) (s : State), boot img = .next s → StateInv s

/-- R401, R402, R405: the registers after reset, over whatever memory contents the image left; the register values
are the spec's own decision D13. Nothing is pushed and no memory is written. -/
def Obligations.ResetRegisterValues : Prop :=
  ∀ (cpuMem ppuMem : Memory) (m : Mirroring),
    let s := State.powerOn cpuMem ppuMem m
    s.a = 0 ∧ s.x = 0 ∧ s.y = 0 ∧ s.sp = 0xFD ∧ s.p = 0x24 ∧
      s.pc.toNat = 256 * (memGet cpuMem 0xFFFD).toNat + (memGet cpuMem 0xFFFC).toNat ∧ s.halted = none ∧
      s.cpuMem = cpuMem ∧ s.ppuMem = ppuMem ∧ (∀ n, memGet s.oam n = 0) ∧ s.ppuctrl = 0 ∧ s.ppumask = 0 ∧
      s.vblank = false ∧ s.spr0hit = false ∧ s.sprovf = false ∧ s.oamaddr = 0 ∧ s.scrollx = 0 ∧ s.scrolly = 0 ∧
      s.vaddr = 0 ∧ s.w = false ∧ s.phase = .idle ∧ s.strobe = false ∧ s.shift = 0 ∧ s.mirroring = m

/-- R411 to R416, R405: the loader. An image is accepted under exactly the conditions of R412; its program bytes are
at 0x8000 upward; with one bank the top 16 bytes are at 0xFFF0 to 0xFFFF too and the rest above 0xBFFF is initial;
its pattern bytes are at PPU address 0 upward; the mirroring bit is recorded; PC comes from the reset vector. -/
def Obligations.BootLoadsTheImage : Prop :=
  ∀ img : List Byte,
    let banks := (img.getD 4 0).toNat
    let patterns := (img.getD 5 0).toNat
    let accepted := 16 ≤ img.length ∧ (banks = 1 ∨ banks = 2) ∧ patterns ≤ 1 ∧
      16 + 16384 * banks + 8192 * patterns ≤ img.length
    (¬ accepted → boot img = .fault .romFormatError) ∧
      (accepted → ∃ s, boot img = .next s ∧
        (∀ n, n < 0x8000 → memGet s.cpuMem n = 0) ∧
        (∀ n, n < 16384 * banks → memGet s.cpuMem (0x8000 + n) = img.getD (16 + n) 0) ∧
        (banks = 1 → (∀ n, n < 16 → memGet s.cpuMem (0xFFF0 + n) = memGet s.cpuMem (0xBFF0 + n)) ∧
          ∀ n, 0xC000 ≤ n → n < 0xFFF0 → memGet s.cpuMem n = 0) ∧
        (∀ n, n < 8192 * patterns → memGet s.ppuMem n = img.getD (16 + 16384 * banks + n) 0) ∧
        (∀ n, 8192 * patterns ≤ n → memGet s.ppuMem n = 0) ∧
        (s.mirroring = .vertical ↔ (img.getD 6 0).getLsbD 0 = true) ∧
        s.pc.toNat = 256 * (memGet s.cpuMem 0xFFFD).toNat + (memGet s.cpuMem 0xFFFC).toNat)

/-! ### The address space -/

/-- R63: `Class(addr)`, by the number of the address. -/
def Obligations.AddressClasses : Prop :=
  ∀ a : Word,
    (0x2000 ≤ a.toNat ∧ a.toNat ≤ 0x3FFF → classify a = .ppuReg
      ([PpuReg.control, .mask, .status, .oamAddr, .oamData, .scroll, .vramAddr, .vramData].getD (a.toNat % 8) .control)) ∧
      (a.toNat = 0x4016 → classify a = .controller) ∧
      (¬ (0x2000 ≤ a.toNat ∧ a.toNat ≤ 0x3FFF) → a.toNat ≠ 0x4016 → classify a = .plain)

/-- R64, R65, R66: storage: a read gives the latest byte written and changes nothing; a write changes that byte and
nothing else, program ROM included. -/
def Obligations.StorageReadsTheLatestWrite : Prop :=
  ∀ (a b : Word) (v : Byte) (s : State), classify a = .plain → classify b = .plain →
    let t := memWrite a v s
    memRead b t = (if b = a then v else (memRead b s).1, t) ∧ memRead b s = (memGet s.cpuMem b.toNat, s) ∧
      t = { s with cpuMem := t.cpuMem } ∧ (∀ n, n ≠ a.toNat → memGet t.cpuMem n = memGet s.cpuMem n)

/-- R275, R279, R283, R284: the reads of the register window, at every mirror: the value, and all that changes. The
drawn bits are the free values of log entry 5. -/
def Obligations.WindowReadEffects : Prop :=
  ∀ (a : Word) (s : State), 0x2000 ≤ a.toNat → a.toNat ≤ 0x3FFF →
    let r := memRead a s
    (a.toNat % 8 = 2 → r.1.getLsbD 7 = s.vblank ∧ r.1.getLsbD 6 = s.spr0hit ∧ r.1.getLsbD 5 = s.sprovf ∧
      r.1.toNat % 32 = (Config.statusLowBits s.draws).toNat ∧
      r.2 = { s with vblank := false, w := false, draws := s.draws + 1 }) ∧
    (a.toNat % 8 = 4 → r = (memGet s.oam s.oamaddr.toNat, s)) ∧
    (a.toNat % 8 = 7 → r.1 = memGet s.ppuMem (s.vaddr.toNat % 16384) ∧
      r.2.vaddr.toNat = (s.vaddr.toNat + if s.ppuctrl.getLsbD 2 then 32 else 1) % 65536 ∧
      r.2 = { s with vaddr := r.2.vaddr }) ∧
    (a.toNat % 8 ∈ [0, 1, 3, 5, 6] → r = (Config.writeOnlyRead s.draws, { s with draws := s.draws + 1 }))

/-- R272, R274, R276, R277, R278, R280, R281, R282: the writes of the register window, at every mirror, and all that
changes; no byte of CPU memory does (R65). -/
def Obligations.WindowWriteEffects : Prop :=
  ∀ (a : Word) (v : Byte) (s : State), 0x2000 ≤ a.toNat → a.toNat ≤ 0x3FFF →
    let t := memWrite a v s
    (a.toNat % 8 = 0 → t = { s with ppuctrl := v }) ∧
    (a.toNat % 8 = 1 → t = { s with ppumask := v }) ∧
    (a.toNat % 8 = 2 → t = s) ∧
    (a.toNat % 8 = 3 → t = { s with oamaddr := v }) ∧
    (a.toNat % 8 = 4 → t = { s with oam := t.oam, oamaddr := t.oamaddr } ∧
      t.oamaddr.toNat = (s.oamaddr.toNat + 1) % 256 ∧
      ∀ n, memGet t.oam n = if n = s.oamaddr.toNat then v else memGet s.oam n) ∧
    (a.toNat % 8 = 5 → t = if s.w then { s with scrolly := v, w := false } else { s with scrollx := v, w := true }) ∧
    (a.toNat % 8 = 6 → t = { s with vaddr := t.vaddr, w := !s.w } ∧
      t.vaddr.toNat = if s.w then 256 * (s.vaddr.toNat / 256) + v.toNat else 256 * v.toNat + s.vaddr.toNat % 256) ∧
    (a.toNat % 8 = 7 → t = { s with ppuMem := t.ppuMem, vaddr := t.vaddr } ∧
      t.vaddr.toNat = (s.vaddr.toNat + if s.ppuctrl.getLsbD 2 then 32 else 1) % 65536 ∧
      ∀ n, memGet t.ppuMem n = if n = s.vaddr.toNat % 16384 then v else memGet s.ppuMem n)

/-- R286: two window addresses that agree modulo 8 behave alike, for reads and for writes. -/
def Obligations.WindowMirrorsBehaveAlike : Prop :=
  ∀ (a b : Word) (v : Byte) (s : State), 0x2000 ≤ a.toNat → a.toNat ≤ 0x3FFF → 0x2000 ≤ b.toNat → b.toNat ≤ 0x3FFF →
    a.toNat % 8 = b.toNat % 8 → memRead a s = memRead b s ∧ memWrite a v s = memWrite b v s

/-- R278: 256 writes of the OAM data port from OAMADDR = 0 fill all 64 records and return OAMADDR to 0. -/
def Obligations.OamFillsWithTwoHundredFiftySixWrites : Prop :=
  ∀ (bs : List Byte) (s : State), bs.length = 256 → s.oamaddr = 0 →
    let t := bs.foldl (fun u v => memWrite 0x2004 v u) s
    t.oamaddr = 0 ∧ (∀ n, n < 256 → memGet t.oam n = bs.getD n 0) ∧ t = { s with oam := t.oam }

/-- R281, R285, R422: the shared write toggle: from W = 0 two writes of the address port make the pointer, high byte
first; a scroll write takes the place of the first; a status read in between starts the pair anew. -/
def Obligations.WriteToggleIsShared : Prop :=
  ∀ (hi lo : Byte) (s : State), s.w = false →
    let pair := memWrite 0x2006 lo (memWrite 0x2006 hi s)
    let crossed := memWrite 0x2006 lo (memWrite 0x2005 hi s)
    let broken := memWrite 0x2006 lo (memRead 0x2002 (memWrite 0x2006 hi s)).2
    (pair.vaddr.toNat = 256 * hi.toNat + lo.toNat ∧ pair.w = false) ∧
      (crossed.scrollx = hi ∧ crossed.vaddr.toNat = 256 * (s.vaddr.toNat / 256) + lo.toNat ∧ crossed.w = false) ∧
      (broken.vaddr.toNat = 256 * lo.toNat + s.vaddr.toNat % 256 ∧ broken.w = true)

/-- R300, R301: the write and the read of the controller port; a reload takes the host's next answer (log entry 6). -/
def Obligations.ControllerPortAccesses : Prop :=
  ∀ (v : Byte) (s : State),
    memWrite 0x4016 v s = (if v.getLsbD 0 then
      { s with strobe := true, shift := Config.buttons s.draws, draws := s.draws + 1 } else { s with strobe := false }) ∧
    (s.strobe = true → (memRead 0x4016 s).1.toNat = (Config.buttons s.draws).toNat % 2 ∧
      (memRead 0x4016 s).2 = { s with shift := Config.buttons s.draws, draws := s.draws + 1 }) ∧
    (s.strobe = false → (memRead 0x4016 s).1.toNat = s.shift.toNat % 2 ∧
      (memRead 0x4016 s).2 = { s with shift := (memRead 0x4016 s).2.shift } ∧
      (memRead 0x4016 s).2.shift.toNat = s.shift.toNat / 2 + 128)

/-- R301, R302: with STROBE = 0 the n-th read gives button n in the order A, B, Select, Start, Up, Down, Left, Right,
and after eight reads every further one gives 1. -/
def Obligations.ControllerReadsSerially : Prop :=
  ∀ (s : State) (n : Nat), s.strobe = false →
    let t := Nat.repeat (fun u => (memRead 0x4016 u).2) n s
    (memRead 0x4016 t).1.toNat = if n < 8 then (s.shift.getLsbD n).toNat else 1

/-- R11, R38: push and pull: the page, the order against S, the wrap; a pull after a push gives the byte back. -/
def Obligations.PushAndPull : Prop :=
  ∀ (v : Byte) (s : State),
    let t := push v s
    t = { s with cpuMem := t.cpuMem, sp := t.sp } ∧ t.sp.toNat = (s.sp.toNat + 255) % 256 ∧
      (∀ n, memGet t.cpuMem n = if n = 256 + s.sp.toNat then v else memGet s.cpuMem n) ∧
      (pull s).1 = memGet s.cpuMem (256 + (s.sp.toNat + 1) % 256) ∧ (pull s).2 = { s with sp := s.sp + 1 } ∧
      pull t = (v, { t with sp := s.sp })

/-! ### Addressing modes -/

/-- R133 to R139: the modes without a pointer: the effective address as a number, the length, and no state changed by
resolving. -/
def Obligations.DirectAddressingModes : Prop :=
  ∀ (b : Byte) (w : Word) (s : State),
    (readOperand (.imm b) s = (b, s) ∧ (effAddr (.imm b) s).1.toNat = (s.pc.toNat + 1) % 65536) ∧
      (effAddr (.zp b) s).1.toNat = b.toNat ∧
      (effAddr (.zpx b) s).1.toNat = (b.toNat + s.x.toNat) % 256 ∧
      (effAddr (.zpy b) s).1.toNat = (b.toNat + s.y.toNat) % 256 ∧
      (effAddr (.abs w) s).1 = w ∧
      (effAddr (.absx w) s).1.toNat = (w.toNat + s.x.toNat) % 65536 ∧
      (effAddr (.absy w) s).1.toNat = (w.toNat + s.y.toNat) % 65536 ∧
      (∀ o ∈ [Operand.imm b, .zp b, .zpx b, .zpy b], operandLen o = 2 ∧ (effAddr o s).2 = s) ∧
      (∀ o ∈ [Operand.abs w, .absx w, .absy w], operandLen o = 3 ∧ (effAddr o s).2 = s)

/-- R141, R142: the two zero-page pointer modes: both pointer bytes come from page 0, and no state changes. -/
def Obligations.ZeroPagePointers : Prop :=
  ∀ (b : Byte) (s : State),
    let p := (b.toNat + s.x.toNat) % 256
    (effAddr (.indx b) s).1.toNat = 256 * (memGet s.cpuMem ((p + 1) % 256)).toNat + (memGet s.cpuMem p).toNat ∧
      (effAddr (.indy b) s).1.toNat =
        (256 * (memGet s.cpuMem ((b.toNat + 1) % 256)).toNat + (memGet s.cpuMem b.toNat).toNat + s.y.toNat) % 65536 ∧
      (effAddr (.indx b) s).2 = s ∧ (effAddr (.indy b) s).2 = s ∧
      operandLen (.indx b) = 2 ∧ operandLen (.indy b) = 2

/-! ### Arithmetic, logic, shifts -/

/-- R150: ADC in every form: the sum, the four flags, and nothing else but PC. -/
def Obligations.AdcAddsWithCarry : Prop :=
  ∀ (b : Byte) (w : Word) (s : State), ∀ f ∈ formsOf .adc b w, f.Encodes ∧
    (let r := readOperand f.operand s
     let sum := s.a.toNat + r.1.toNat + (flagOf .c s.p).toNat
     ∃ t, exec f.instr s = .next t ∧ t.a.toNat = sum % 256 ∧ flagOf .c t.p = decide (256 ≤ sum) ∧
       flagOf .v t.p = (s.a.msb == r.1.msb && t.a.msb != s.a.msb) ∧ flagOf .z t.p = (t.a == 0) ∧
       flagOf .n t.p = t.a.msb ∧ FlagsKept [.c, .v, .z, .n] s t ∧ MemoryKept s t ∧
       t = { r.2 with a := t.a, p := t.p, pc := s.pc + operandLen f.operand })

/-- R151: SBC in every form: the difference less the borrow, C when no borrow occurred, V when the signs of A and M
differ and the result's differs from A's. -/
def Obligations.SbcSubtractsWithBorrow : Prop :=
  ∀ (b : Byte) (w : Word) (s : State), ∀ f ∈ formsOf .sbc b w, f.Encodes ∧
    (let r := readOperand f.operand s
     let borrow := 1 - (flagOf .c s.p).toNat
     ∃ t, exec f.instr s = .next t ∧ t.a.toNat = (s.a.toNat + 256 - r.1.toNat + 256 - borrow) % 256 ∧
       flagOf .c t.p = decide (r.1.toNat + borrow ≤ s.a.toNat) ∧
       flagOf .v t.p = (s.a.msb != r.1.msb && t.a.msb != s.a.msb) ∧ flagOf .z t.p = (t.a == 0) ∧
       flagOf .n t.p = t.a.msb ∧ FlagsKept [.c, .v, .z, .n] s t ∧ MemoryKept s t ∧
       t = { r.2 with a := t.a, p := t.p, pc := s.pc + operandLen f.operand })

/-- R153, R154, R155: AND, ORA and EOR in every form. -/
def Obligations.LogicCombinesWithTheAccumulator : Prop :=
  ∀ (b : Byte) (w : Word) (s : State),
    ∀ e ∈ [(Mnemonic.and, fun x y : Byte => x &&& y), (.ora, fun x y => x ||| y), (.eor, fun x y => x ^^^ y)],
    ∀ f ∈ formsOf e.1 b w, f.Encodes ∧
      (let r := readOperand f.operand s
       ∃ t, exec f.instr s = .next t ∧ t.a = e.2 s.a r.1 ∧ flagOf .z t.p = (t.a == 0) ∧ flagOf .n t.p = t.a.msb ∧
         FlagsKept [.z, .n] s t ∧ MemoryKept s t ∧
         t = { r.2 with a := t.a, p := t.p, pc := s.pc + operandLen f.operand })

/-- R160 to R164: ASL, LSR, ROL and ROR of the accumulator. -/
def Obligations.ShiftsOfTheAccumulator : Prop :=
  ∀ (s : State),
    ∀ e ∈ [(Mnemonic.asl, (0x0A : Byte), Instr.aslAcc), (.lsr, 0x4A, .lsrAcc), (.rol, 0x2A, .rolAcc), (.ror, 0x6A, .rorAcc)],
      EncodesAlone e.2.1 e.2.2 ∧
      ∃ t, exec e.2.2 s = .next t ∧ t.a.toNat = shiftResult e.1 s.a.toNat (flagOf .c s.p).toNat ∧
        flagOf .c t.p = shiftCarry e.1 s.a.toNat ∧ flagOf .z t.p = (t.a == 0) ∧ flagOf .n t.p = t.a.msb ∧
        FlagsKept [.c, .z, .n] s t ∧ MemoryKept s t ∧ t = { s with a := t.a, p := t.p, pc := s.pc + 1 }

/-- R160 to R164: the same four on memory: one read of the effective address, one write of the result there; on
storage exactly that byte changes, on a device register no CPU memory does. -/
def Obligations.ShiftsOfMemory : Prop :=
  ∀ (b : Byte) (w : Word) (s : State), ∀ k ∈ [Mnemonic.asl, .lsr, .rol, .ror], ∀ f ∈ formsOf k b w, f.Encodes ∧
    (let a := (effAddr f.operand s).1
     let r := memRead a s
     ∃ v t, exec f.instr s = .next t ∧ v.toNat = shiftResult k r.1.toNat (flagOf .c s.p).toNat ∧
       flagOf .c t.p = shiftCarry k r.1.toNat ∧ flagOf .z t.p = (v == 0) ∧ flagOf .n t.p = v.msb ∧
       FlagsKept [.c, .z, .n] s t ∧
       t = { memWrite a v r.2 with p := t.p, pc := s.pc + operandLen f.operand } ∧
       (classify a = .plain → memGet t.cpuMem a.toNat = v ∧ MemoryKeptBut [a.toNat] s t) ∧
       (classify a ≠ .plain → ∀ n, memGet t.cpuMem n = memGet s.cpuMem n))

/-! ### Branches and control transfer -/

/-- R170 to R178: the eight branches: PC alone changes. -/
def Obligations.BranchesTestOneFlag : Prop :=
  ∀ (d : Byte) (s : State),
    ∀ e ∈ [(Mnemonic.bcc, (0x90 : Byte), Instr.bcc d), (.bcs, 0xB0, .bcs d), (.beq, 0xF0, .beq d), (.bne, 0xD0, .bne d),
        (.bvc, 0x50, .bvc d), (.bvs, 0x70, .bvs d), (.bpl, 0x10, .bpl d), (.bmi, 0x30, .bmi d)],
      (∀ rest, decode (e.2.1 :: d :: rest) = .instr e.2.2 rest) ∧
      ∃ t, exec e.2.2 s = .next t ∧ t = { s with pc := t.pc } ∧
        (t.pc.toNat : Int) = ((s.pc.toNat : Int) + 2 +
          (if flagOf (branchTest e.1).1 s.p = (branchTest e.1).2 then d.toInt else 0)) % 65536

/-- R185, R186, R143: both forms of JMP; the indirect one takes its high byte from the pointer's own page. -/
def Obligations.JumpsSetThePc : Prop :=
  ∀ (b1 b2 : Byte) (s : State), ∀ w : Word, w.toNat = 256 * b2.toNat + b1.toNat →
    (∀ rest, decode (0x4C :: b1 :: b2 :: rest) = .instr (.jmpAbs w) rest ∧
      decode (0x6C :: b1 :: b2 :: rest) = .instr (.jmpInd w) rest) ∧
    exec (.jmpAbs w) s = .next { s with pc := w } ∧
    (let lo := memRead w s
     let hi := memRead (BitVec.ofNat 16 (256 * b2.toNat + (b1.toNat + 1) % 256)) lo.2
     ∃ t, exec (.jmpInd w) s = .next t ∧ t = { hi.2 with pc := t.pc } ∧
       t.pc.toNat = 256 * hi.1.toNat + lo.1.toNat ∧ MemoryKept s t)

/-- R187: JSR. -/
def Obligations.JsrPushesItsLastByteAddress : Prop :=
  ∀ (b1 b2 : Byte) (s : State), ∀ w : Word, w.toNat = 256 * b2.toNat + b1.toNat →
    (∀ rest, decode (0x20 :: b1 :: b2 :: rest) = .instr (.jsr w) rest) ∧
    ∃ t, exec (.jsr w) s = .next t ∧ t = { s with cpuMem := t.cpuMem, sp := s.sp - 2, pc := w } ∧
      256 * (memGet t.cpuMem (stackCell s.sp)).toNat + (memGet t.cpuMem (stackCell (s.sp - 1))).toNat =
        (s.pc.toNat + 2) % 65536 ∧
      MemoryKeptBut [stackCell s.sp, stackCell (s.sp - 1)] s t

/-- R188: RTS. -/
def Obligations.RtsReturnsPastTheStackedAddress : Prop :=
  ∀ s : State, EncodesAlone 0x60 .rts ∧
    ∃ t, exec .rts s = .next t ∧ t = { s with sp := s.sp + 2, pc := t.pc } ∧ MemoryKept s t ∧
      t.pc.toNat = (256 * (memGet s.cpuMem (stackCell (s.sp + 2))).toNat +
        (memGet s.cpuMem (stackCell (s.sp + 1))).toNat + 1) % 65536

/-- R189, R382: BRK: what is stacked and where, I set, PC from the vector at 0xFFFE. -/
def Obligations.BrkTakesTheTrap : Prop :=
  ∀ s : State, EncodesAlone 0x00 .brk ∧
    ∃ t, exec .brk s = .next t ∧ t = { s with cpuMem := t.cpuMem, sp := s.sp - 3, p := t.p, pc := t.pc } ∧
      256 * (memGet t.cpuMem (stackCell s.sp)).toNat + (memGet t.cpuMem (stackCell (s.sp - 1))).toNat =
        (s.pc.toNat + 2) % 65536 ∧
      memGet t.cpuMem (stackCell (s.sp - 2)) = s.p ||| 0x30 ∧
      MemoryKeptBut [stackCell s.sp, stackCell (s.sp - 1), stackCell (s.sp - 2)] s t ∧
      flagOf .i t.p = true ∧ FlagsKept [.i] s t ∧
      t.pc.toNat = 256 * (memGet s.cpuMem 0xFFFF).toNat + (memGet s.cpuMem 0xFFFE).toNat

/-- R190, R385: RTI: the status without bits 4 and 5, and exactly the stacked address. -/
def Obligations.RtiRestoresStatusAndPc : Prop :=
  ∀ s : State, EncodesAlone 0x40 .rti ∧
    ∃ t, exec .rti s = .next t ∧ t = { s with sp := s.sp + 3, p := t.p, pc := t.pc } ∧ MemoryKept s t ∧
      t.p = (memGet s.cpuMem (stackCell (s.sp + 1)) &&& 0xCF) ||| 0x20 ∧
      t.pc.toNat = 256 * (memGet s.cpuMem (stackCell (s.sp + 3))).toNat + (memGet s.cpuMem (stackCell (s.sp + 2))).toNat

/-- R188, R191: RTS returns to the instruction after the JSR, when the subroutine left S and its two stacked bytes as
JSR made them. -/
def Obligations.RtsUndoesJsr : Prop :=
  ∀ (w : Word) (s s' t : State), exec (.jsr w) s = .next s' → t.sp = s'.sp →
    memGet t.cpuMem (stackCell s.sp) = memGet s'.cpuMem (stackCell s.sp) →
    memGet t.cpuMem (stackCell (s.sp - 1)) = memGet s'.cpuMem (stackCell (s.sp - 1)) →
      exec .rts t = .next { t with sp := s.sp, pc := s.pc + 3 }

/-- R384, R385, R191: RTI resumes two bytes past the BRK opcode with the status BRK found, when the handler left S and
its three stacked bytes as BRK made them; P's two constant bits are as the invariant says. -/
def Obligations.RtiUndoesBrk : Prop :=
  ∀ s s' t : State, flagOf .b s.p = false → flagOf .u s.p = true → exec .brk s = .next s' → t.sp = s'.sp →
    (∀ sp ∈ [s.sp, s.sp - 1, s.sp - 2], memGet t.cpuMem (stackCell sp) = memGet s'.cpuMem (stackCell sp)) →
      exec .rti t = .next { t with sp := s.sp, p := s.p, pc := s.pc + 2 }

/-! ### Compare, increment, decrement -/

/-- R200 to R203: CMP, CPX and CPY in every form: three flags, no register but PC. -/
def Obligations.ComparesSetThreeFlags : Prop :=
  ∀ (b : Byte) (w : Word) (s : State), ∀ e ∈ [(Mnemonic.cmp, s.a), (.cpx, s.x), (.cpy, s.y)],
    ∀ f ∈ formsOf e.1 b w, f.Encodes ∧
      (let r := readOperand f.operand s
       ∃ t, exec f.instr s = .next t ∧ flagOf .c t.p = decide (r.1.toNat ≤ e.2.toNat) ∧
         flagOf .z t.p = decide (e.2 = r.1) ∧ flagOf .n t.p = (e.2 - r.1).msb ∧ FlagsKept [.c, .z, .n] s t ∧
         MemoryKept s t ∧ t = { r.2 with p := t.p, pc := s.pc + operandLen f.operand })

/-- R205, R206: INC and DEC of memory: one read, one write of the effective address. -/
def Obligations.IncrementsOfMemory : Prop :=
  ∀ (b : Byte) (w : Word) (s : State), ∀ e ∈ [(Mnemonic.inc, 1), (.dec, 255)], ∀ f ∈ formsOf e.1 b w, f.Encodes ∧
    (let a := (effAddr f.operand s).1
     let r := memRead a s
     ∃ v t, exec f.instr s = .next t ∧ v.toNat = (r.1.toNat + e.2) % 256 ∧ flagOf .z t.p = (v == 0) ∧
       flagOf .n t.p = v.msb ∧ FlagsKept [.z, .n] s t ∧
       t = { memWrite a v r.2 with p := t.p, pc := s.pc + operandLen f.operand } ∧
       (classify a = .plain → memGet t.cpuMem a.toNat = v ∧ MemoryKeptBut [a.toNat] s t) ∧
       (classify a ≠ .plain → ∀ n, memGet t.cpuMem n = memGet s.cpuMem n))

/-- R207 to R210: INX, DEX, INY, DEY. -/
def Obligations.IncrementsOfIndexRegisters : Prop :=
  ∀ s : State,
    (∀ e ∈ [((0xE8 : Byte), Instr.inx, 1), (0xCA, .dex, 255)], EncodesAlone e.1 e.2.1 ∧
      ∃ t, exec e.2.1 s = .next t ∧ t.x.toNat = (s.x.toNat + e.2.2) % 256 ∧ flagOf .z t.p = (t.x == 0) ∧
        flagOf .n t.p = t.x.msb ∧ FlagsKept [.z, .n] s t ∧ MemoryKept s t ∧
        t = { s with x := t.x, p := t.p, pc := s.pc + 1 }) ∧
    (∀ e ∈ [((0xC8 : Byte), Instr.iny, 1), (0x88, .dey, 255)], EncodesAlone e.1 e.2.1 ∧
      ∃ t, exec e.2.1 s = .next t ∧ t.y.toNat = (s.y.toNat + e.2.2) % 256 ∧ flagOf .z t.p = (t.y == 0) ∧
        flagOf .n t.p = t.y.msb ∧ FlagsKept [.z, .n] s t ∧ MemoryKept s t ∧
        t = { s with y := t.y, p := t.p, pc := s.pc + 1 })

/-! ### Transfers, stack, flags -/

/-- R215 to R220: the six transfers; TXS writes no flag. -/
def Obligations.TransfersCopyARegister : Prop :=
  ∀ s : State,
    (∀ e ∈ [((0xAA : Byte), Instr.tax, s.a, fun t : State => t.x), (0xA8, .tay, s.a, fun t => t.y),
        (0x8A, .txa, s.x, fun t => t.a), (0x98, .tya, s.y, fun t => t.a), (0xBA, .tsx, s.sp, fun t => t.x)],
      EncodesAlone e.1 e.2.1 ∧
      ∃ t, exec e.2.1 s = .next t ∧ e.2.2.2 t = e.2.2.1 ∧ flagOf .z t.p = (e.2.2.1 == 0) ∧
        flagOf .n t.p = e.2.2.1.msb ∧ FlagsKept [.z, .n] s t ∧ MemoryKept s t ∧
        t = { s with a := t.a, x := t.x, y := t.y, p := t.p, pc := s.pc + 1 } ∧
        (e.2.1 ∉ [Instr.txa, .tya] → t.a = s.a) ∧ (e.2.1 ∉ [Instr.tax, .tsx] → t.x = s.x) ∧
        (e.2.1 ≠ Instr.tay → t.y = s.y)) ∧
    (EncodesAlone 0x9A .txs ∧ exec .txs s = .next { s with sp := s.x, pc := s.pc + 1 })

/-- R225, R227: PHA and PHP. -/
def Obligations.PushInstructions : Prop :=
  ∀ s : State, ∀ e ∈ [((0x48 : Byte), Instr.pha, s.a), (0x08, .php, s.p ||| 0x30)], EncodesAlone e.1 e.2.1 ∧
    ∃ t, exec e.2.1 s = .next t ∧ memGet t.cpuMem (stackCell s.sp) = e.2.2 ∧ MemoryKeptBut [stackCell s.sp] s t ∧
      t = { s with cpuMem := t.cpuMem, sp := s.sp - 1, pc := s.pc + 1 }

/-- R226, R228: PLA and PLP. -/
def Obligations.PullInstructions : Prop :=
  ∀ s : State,
    let v := memGet s.cpuMem (stackCell (s.sp + 1))
    (EncodesAlone 0x68 .pla ∧
      ∃ t, exec .pla s = .next t ∧ t.a = v ∧ flagOf .z t.p = (v == 0) ∧ flagOf .n t.p = v.msb ∧
        FlagsKept [.z, .n] s t ∧ MemoryKept s t ∧ t = { s with a := t.a, p := t.p, sp := s.sp + 1, pc := s.pc + 1 }) ∧
    (EncodesAlone 0x28 .plp ∧
      ∃ t, exec .plp s = .next t ∧ (∀ f ∈ [Flag.n, .v, .d, .i, .z, .c], flagOf f t.p = flagOf f v) ∧
        flagOf .b t.p = false ∧ flagOf .u t.p = true ∧ MemoryKept s t ∧
        t = { s with p := t.p, sp := s.sp + 1, pc := s.pc + 1 })

/-- R235 to R242: the seven flag instructions write exactly their flag, and NOP writes nothing but PC. -/
def Obligations.FlagInstructionsWriteOneFlag : Prop :=
  ∀ s : State,
    (∀ e ∈ [((0x18 : Byte), Instr.clc, Flag.c, false), (0x38, .sec, .c, true), (0x58, .cli, .i, false),
        (0x78, .sei, .i, true), (0xD8, .cld, .d, false), (0xF8, .sed, .d, true), (0xB8, .clv, .v, false)],
      EncodesAlone e.1 e.2.1 ∧
      ∃ t, exec e.2.1 s = .next t ∧ flagOf e.2.2.1 t.p = e.2.2.2 ∧ FlagsKept [e.2.2.1] s t ∧ MemoryKept s t ∧
        t = { s with p := t.p, pc := s.pc + 1 }) ∧
    (EncodesAlone 0xEA .nop ∧ exec .nop s = .next { s with pc := s.pc + 1 })

/-! ### Load, store, bit test -/

/-- R250 to R252: LDA, LDX and LDY in every form. -/
def Obligations.LoadsReadTheOperand : Prop :=
  ∀ (b : Byte) (w : Word) (s : State),
    ∀ e ∈ [(Mnemonic.lda, fun t : State => t.a), (.ldx, fun t => t.x), (.ldy, fun t => t.y)],
    ∀ f ∈ formsOf e.1 b w, f.Encodes ∧
      (let r := readOperand f.operand s
       ∃ t, exec f.instr s = .next t ∧ e.2 t = r.1 ∧ flagOf .z t.p = (r.1 == 0) ∧ flagOf .n t.p = r.1.msb ∧
         FlagsKept [.z, .n] s t ∧ MemoryKept s t ∧
         t = { r.2 with a := t.a, x := t.x, y := t.y, p := t.p, pc := s.pc + operandLen f.operand } ∧
         (e.1 ≠ .lda → t.a = s.a) ∧ (e.1 ≠ .ldx → t.x = s.x) ∧ (e.1 ≠ .ldy → t.y = s.y))

/-- R253 to R255: STA, STX and STY in every form: the register is written at the effective address, which is not read;
on storage exactly that byte changes, on a device register no CPU memory does; no flag and no register but PC. -/
def Obligations.StoresWriteTheEffectiveAddress : Prop :=
  ∀ (b : Byte) (w : Word) (s : State), ∀ e ∈ [(Mnemonic.sta, s.a), (.stx, s.x), (.sty, s.y)],
    ∀ f ∈ formsOf e.1 b w, f.Encodes ∧
      (let a := (effAddr f.operand s).1
       ∃ t, exec f.instr s = .next t ∧ t = { memWrite a e.2 s with pc := s.pc + operandLen f.operand } ∧ t.p = s.p ∧
         (classify a = .plain → memGet t.cpuMem a.toNat = e.2 ∧ MemoryKeptBut [a.toNat] s t) ∧
         (classify a ≠ .plain → ∀ n, memGet t.cpuMem n = memGet s.cpuMem n))

/-- R256: BIT in both forms: Z from A and M, N and V from M, no register but PC. -/
def Obligations.BitTestsTheOperand : Prop :=
  ∀ (b : Byte) (w : Word) (s : State), ∀ f ∈ formsOf .bit b w, f.Encodes ∧
    (let r := readOperand f.operand s
     ∃ t, exec f.instr s = .next t ∧ flagOf .z t.p = (s.a &&& r.1 == 0) ∧ flagOf .n t.p = r.1.getLsbD 7 ∧
       flagOf .v t.p = r.1.getLsbD 6 ∧ FlagsKept [.z, .n, .v] s t ∧ MemoryKept s t ∧
       t = { r.2 with p := t.p, pc := s.pc + operandLen f.operand })

/-! ### The decoder and the compositor -/

/-- R311, R312, R313, R318: a tile pixel is twice its high-plane bit plus its low-plane bit, the leftmost pixel from
bit 7; so with an all-zero low plane it is twice the high-plane bit. -/
def Obligations.TilePixelCombinesTwoPlanes : Prop :=
  ∀ (mem : Memory) (table : Nat) (t : Byte) (c r : Nat), c < 8 → r < 8 →
    let lo := memGet mem ((table + 16 * t.toNat + r) % 16384)
    let hi := memGet mem ((table + 16 * t.toNat + 8 + r) % 16384)
    (tilePixel mem table t c r).toNat = 2 * (hi.toNat / 2 ^ (7 - c) % 2) + lo.toNat / 2 ^ (7 - c) % 2 ∧
      (lo = 0 → (tilePixel mem table t c r).toNat = 2 * (hi.toNat / 2 ^ (7 - c) % 2))

/-- R314 to R317: the decoder's output by layer: the palette RAM entry, masked to six bits; a sprite pixel of index 0
has no colour, a background one takes entry 0; and the grid of a tile holds these at `[r][c]`. -/
def Obligations.TileColourLooksUpThePalette : Prop :=
  ∀ (mem : Memory) (table : Nat) (t : Byte) (g : BitVec 2) (c r : Nat),
    let ci := (tilePixel mem table t c r).toNat
    let entry := fun pi => (memGet mem (0x3F00 + pi)).toNat % 64
    (tileColour mem table t .background g c r).map BitVec.toNat =
        some (if ci = 0 then entry 0 else entry (4 * g.toNat + ci)) ∧
      (tileColour mem table t .sprite g c r).map BitVec.toNat =
        (if ci = 0 then none else some (entry (16 + 4 * g.toNat + ci))) ∧
      ∀ (layer : Layer) (hc : c < 8) (hr : r < 8),
        (tileGrid mem table t layer g)[r][c] = tileColour mem table t layer g c r

/-- R331, R332, R334, R335, R337 to R341: the picture as numbers over PPU memory and OAM. The background at (x, y): the
tile index and the attribute byte by their addresses, the group by its quadrant, the colour by the palette entry. A
record: its four bytes, its rectangle without wrap, the flips by bits 6 and 7, its colour's palette entry. The pixel: the
lowest record opaque there, unless its bit 5 puts it behind an opaque background; the background where no record is. -/
def Obligations.PixelTakesTheLowestOpaqueSprite : Prop :=
  ∀ (q : Snapshot) (x y : Nat),
    (x < 256 → y < 240 →
      let tile := memGet q.mem (0x2000 + 32 * (y / 8) + x / 8)
      let attr := (memGet q.mem (0x23C0 + 8 * (y / 32) + x / 32)).toNat
      let g := attr / 2 ^ (2 * (x / 16 % 2) + 4 * (y / 16 % 2)) % 4
      let ci := (tilePixel q.mem (if q.bgPt then 0x1000 else 0) tile (x % 8) (y % 8)).toNat
      (bgIndex q x y).toNat = ci ∧ (bgOpaque q x y = true ↔ ci ≠ 0) ∧
        (bgColour q x y).toNat = (memGet q.mem (0x3F00 + if ci = 0 then 0 else 4 * g + ci)).toNat % 64) ∧
    (∀ i, i < 64 →
      let top := (memGet q.oam (4 * i)).toNat
      let attr := (memGet q.oam (4 * i + 2)).toNat
      let left := (memGet q.oam (4 * i + 3)).toNat
      let inside := left ≤ x ∧ x ≤ left + 7 ∧ top ≤ y ∧ y ≤ top + 7
      let c := if attr / 64 % 2 = 1 then 7 - (x - left) else x - left
      let r := if attr / 128 % 2 = 1 then 7 - (y - top) else y - top
      let ci := (tilePixel q.mem (if q.sprPt then 0x1000 else 0) (memGet q.oam (4 * i + 1)) c r).toNat
      (inSprite (spriteAt q i) x y = true ↔ inside) ∧
        (inside → (spriteIndex q (spriteAt q i) x y).toNat = ci ∧
          (spriteColour q i x y).toNat = (memGet q.mem (0x3F00 + (16 + 4 * (attr % 4) + ci))).toNat % 64) ∧
        (spriteOpaque q i x y = true ↔ inside ∧ ci ≠ 0)) ∧
    ((∀ i, i < 64 → spriteOpaque q i x y = false) → pixel q x y = bgColour q x y) ∧
      (∀ i, i < 64 → spriteOpaque q i x y = true → (∀ j, j < i → spriteOpaque q j x y = false) →
        pixel q x y = if (memGet q.oam (4 * i + 2)).toNat / 32 % 2 = 1 ∧ bgOpaque q x y = true then bgColour q x y
          else spriteColour q i x y)

/-- R342: sprite-zero hit: some pixel of the frame, inside record 0's rectangle, where record 0 and the background are
both opaque; no other record enters. -/
def Obligations.SpriteZeroHitIsAnOverlapInTheFrame : Prop :=
  ∀ q : Snapshot,
    (spriteZeroHit q = true ↔ ∃ x y, x < 256 ∧ y < 240 ∧ inSprite (spriteAt q 0) x y = true ∧
      spriteIndex q (spriteAt q 0) x y ≠ 0 ∧ bgOpaque q x y = true) ∧
      ∀ oam : Memory, (∀ n, n < 4 → memGet oam n = memGet q.oam n) →
        spriteZeroHit { q with oam := oam } = spriteZeroHit q

/-- R330, R350: `Render` writes every pixel from one snapshot, of PPU memory, OAM and the two pattern-table bits of
PPUCTRL, sets SPR0HIT on a hit, moves the phase, and changes no other state. -/
def Obligations.RenderWritesEveryPixel : Prop :=
  ∀ s : State, s.phase = .idle →
    let t := compositorCycle s
    snapshotOf s = ⟨s.ppuMem, s.oam, s.ppuctrl.getLsbD 4, s.ppuctrl.getLsbD 3⟩ ∧
    (∀ (x y : Nat) (hx : x < 256) (hy : y < 240), (t.framebuf[y])[x] = pixel (snapshotOf s) x y) ∧
      (t.spr0hit = true ↔ s.spr0hit = true ∨ spriteZeroHit (snapshotOf s) = true) ∧
      t = { s with framebuf := t.framebuf, spr0hit := t.spr0hit, phase := .rendered }

/-- R350 to R354: the compositor's step is the machine's, in every phase, whenever the CPU has no step left in its
budget, halted or not (log entry 1). `VBlankBegin` sets VBLANK and presents the finished frame, `VBlankEnd` clears
VBLANK and SPR0HIT; the order is Render, VBlankBegin, VBlankEnd. A compositor step also draws the schedule's next two
numbers (log entry 1) and changes nothing else. -/
def Obligations.VBlankStepsFollowRender : Prop :=
  ∀ s : State,
    (s.cpuLeft = 0 → step s = .next (compositorStep s)) ∧
    (s.phase = .rendered → compositorCycle s =
      { s with vblank := true, presented := s.framebuf :: s.presented, phase := .inVBlank }) ∧
    (s.phase = .inVBlank → compositorCycle s = { s with vblank := false, spr0hit := false, phase := .idle }) ∧
    (s.phase = .idle → compositorCycle s = render s ∧ (compositorCycle s).phase = .rendered) ∧
    compositorStep s = { compositorCycle s with
      cpuLeft := (compositorStep s).cpuLeft, compositorLeft := (compositorStep s).compositorLeft, draws := s.draws + 1 }

/-- R344: the picture and the hit depend on PPU memory, OAM and the two pattern-table bits alone: states that agree on
these have the same frame, whatever the CPU, the scroll, the mask or the mirroring bit hold. -/
def Obligations.PictureDependsOnTheSnapshotAlone : Prop :=
  ∀ s t : State, (∀ n, n < 16384 → memGet s.ppuMem n = memGet t.ppuMem n) →
    (∀ n, n < 256 → memGet s.oam n = memGet t.oam n) → s.ppuctrl.getLsbD 3 = t.ppuctrl.getLsbD 3 →
    s.ppuctrl.getLsbD 4 = t.ppuctrl.getLsbD 4 →
      frameOf (snapshotOf s) = frameOf (snapshotOf t) ∧ spriteZeroHit (snapshotOf s) = spriteZeroHit (snapshotOf t)

/-- R421: after `VBlankBegin` at least `VBlankMinCpuSteps` CPU steps come before the compositor moves again, unless the
CPU halts. -/
def Obligations.VBlankLastsTheGuaranteedCpuSteps : Prop :=
  ∀ (s : State) (k : Nat), s.phase = .rendered → s.cpuLeft = 0 → k ≤ Config.vblankMinCpuSteps →
    ∃ t : State, Sys2Proof.core.run (k + 1) s = .next t ∧
      (t.halted = none → t.phase = .inVBlank ∧ t.presented = s.framebuf :: s.presented)

/-- R39, R42, R49, R50, R52, R355: no instruction changes the picture, the compositor's phase, what was presented, the
mirroring bit, the two sprite bits or HALTED, and none sets VBLANK. -/
def Obligations.NoInstructionDoesTheCompositorsWork : Prop :=
  ∀ (i : Instr) (s t : State), exec i s = .next t →
    t.framebuf = s.framebuf ∧ t.phase = s.phase ∧ t.presented = s.presented ∧ t.mirroring = s.mirroring ∧
      t.spr0hit = s.spr0hit ∧ t.sprovf = s.sprovf ∧ t.halted = s.halted ∧ (t.vblank = true → s.vblank = true)

/-- R356, R354: both agents are treated weakly fairly from every state: within finitely many steps the compositor has the
move, a `VBlankBegin` presents one more frame, and, while the CPU is not halted, the CPU has the move. The schedule
stays open (log entry 1): every one of these numbers of steps is the draws'. -/
def Obligations.ScheduleIsWeaklyFair : Prop :=
  ∀ s : State,
    (∃ (k : Nat) (t : State), Sys2Proof.core.run k s = .next t ∧ nextAgent t = .compositor) ∧
    (∃ (k : Nat) (t : State), Sys2Proof.core.run k s = .next t ∧ t.presented.length = s.presented.length + 1) ∧
    (s.halted = none →
      ∃ (k : Nat) (t : State), Sys2Proof.core.run k s = .next t ∧ t.halted = none ∧ nextAgent t = .cpu)
end

