-- ==== Sys2Proof/Laws/Memory.lean ====
section
/-! SUPPORT. The laws of memory: a read after a write, and the canonical form every operation keeps. -/

namespace Sys2Proof.Machine

theorem memGet_memErase (m : Memory) (a b : Nat) :
    memGet (memErase m a) b = if b = a then Config.initByte else memGet m b := by
  induction m with
  | nil => simp [memErase, memGet]
  | cons c r ih =>
    obtain ⟨k, v⟩ := c
    rw [memErase] at ih ⊢
    by_cases h : k = a
    · subst h
      by_cases hb : b = k
      · simp_all
      · simp_all [memGet, Ne.symm hb]
    · rw [List.filter_cons_of_pos (by simpa using h)]
      by_cases hb : k = b
      · subst hb; simp [memGet, h]
      · simp [memGet, hb, ih]

theorem memGet_memInsert (a : Nat) (v : Byte) (m : Memory) (b : Nat) (h : memGet m a = Config.initByte ∨ b ≠ a)
    (ha : ∀ c ∈ m, c.1 ≠ a) : memGet (memInsert a v m) b = if b = a then v else memGet m b := by
  induction m with
  | nil => by_cases hb : a = b <;> simp [memInsert, memGet, hb, eq_comm]
  | cons c r ih =>
    obtain ⟨k, u⟩ := c
    have hk : k ≠ a := ha (k, u) (by simp)
    have hr : ∀ c ∈ r, c.1 ≠ a := fun c hc => ha c (List.mem_cons_of_mem _ hc)
    rw [memInsert]
    split
    · by_cases hb : a = b
      · simp [memGet, hb]
      · simp [memGet, hb, Ne.symm hb]
    · by_cases hb : k = b
      · subst hb; simp [memGet, hk]
      · have := ih (by simpa [memGet, hk] using h) hr
        simp [memGet, hb, this]

/-- A read after a write gives the byte written there and the old byte elsewhere. -/
theorem memGet_memSet (m : Memory) (a : Nat) (v : Byte) (b : Nat) :
    memGet (memSet m a v) b = if b = a then v else memGet m b := by
  unfold memSet
  split
  · rename_i h; rw [memGet_memErase, h]
  · rw [memGet_memInsert _ _ _ _ (.inl (by simp [memGet_memErase])) (by simp [memErase]), memGet_memErase]
    split <;> simp_all

@[simp] theorem memGet_memSet_same (m : Memory) (a : Nat) (v : Byte) : memGet (memSet m a v) a = v := by
  simp [memGet_memSet]

theorem memGet_memSet_other (m : Memory) {a b : Nat} (v : Byte) (h : b ≠ a) :
    memGet (memSet m a v) b = memGet m b := by simp [memGet_memSet, h]

theorem memSorted_mono {lo lo' size : Nat} {m : Memory} (h : lo' ≤ lo) (hm : memSorted lo size m = true) :
    memSorted lo' size m = true := by
  cases m with
  | nil => rfl
  | cons c r => simp only [memSorted, Bool.and_eq_true, decide_eq_true_eq] at hm ⊢; exact ⟨⟨⟨by omega, hm.1.1.2⟩, hm.1.2⟩, hm.2⟩

theorem memSorted_memErase {lo size : Nat} {m : Memory} (a : Nat) (hm : memSorted lo size m = true) :
    memSorted lo size (memErase m a) = true := by
  induction m generalizing lo with
  | nil => rfl
  | cons c r ih =>
    obtain ⟨k, v⟩ := c
    simp only [memSorted, Bool.and_eq_true, decide_eq_true_eq] at hm
    have hr := ih hm.2
    unfold memErase at hr ⊢
    rw [List.filter_cons]
    split
    · simp [memSorted, hm.1.1.1, hm.1.1.2, hr]; simpa using hm.1.2
    · exact memSorted_mono (by omega) hr

theorem memSorted_memInsert {lo size a : Nat} {v : Byte} {m : Memory} (hm : memSorted lo size m = true)
    (hlo : lo ≤ a) (ha : a < size) (hv : v ≠ Config.initByte) (hne : ∀ c ∈ m, c.1 ≠ a) :
    memSorted lo size (memInsert a v m) = true := by
  induction m generalizing lo with
  | nil => simp [memInsert, memSorted, hlo, ha, hv]
  | cons c r ih =>
    obtain ⟨k, u⟩ := c
    simp only [memSorted, Bool.and_eq_true, decide_eq_true_eq] at hm
    have hk : k ≠ a := hne (k, u) (by simp)
    rw [memInsert]
    split
    · simp only [memSorted, Bool.and_eq_true, decide_eq_true_eq]
      exact ⟨⟨⟨hlo, ha⟩, by simpa using hv⟩, ⟨⟨by omega, hm.1.1.2⟩, hm.1.2⟩, hm.2⟩
    · simp only [memSorted, Bool.and_eq_true, decide_eq_true_eq]
      exact ⟨⟨⟨hm.1.1.1, hm.1.1.2⟩, hm.1.2⟩,
        ih hm.2 (by omega) (fun c hc => hne c (List.mem_cons_of_mem _ hc))⟩

/-- A write below `size` keeps the canonical form. -/
theorem memSet_wf {size : Nat} {m : Memory} {a : Nat} (v : Byte) (hm : Memory.wf size m = true) (ha : a < size) :
    Memory.wf size (memSet m a v) = true := by
  unfold Memory.wf memSet at *
  split
  · exact memSorted_memErase a hm
  · rename_i hv
    exact memSorted_memInsert (memSorted_memErase a hm) (Nat.zero_le a) ha hv (by simp [memErase])

/-- What a write can list: the old cells and the one written. -/
theorem mem_memSet {m : Memory} {a : Nat} {v : Byte} {c : Host.Cell} (h : c ∈ memSet m a v) :
    c ∈ m ∨ c = (a, v) := by
  have hins : ∀ m : Memory, c ∈ memInsert a v m → c ∈ m ∨ c = (a, v) := by
    intro m
    induction m with
    | nil => simp [memInsert]
    | cons d r ih =>
      obtain ⟨k, u⟩ := d
      rw [memInsert]
      split
      · simp only [List.mem_cons]; tauto
      · simp only [List.mem_cons]; rintro (h | h)
        · exact .inl (.inl h)
        · exact (ih h).imp .inr id
  have her : c ∈ memErase m a → c ∈ m := fun h => (List.mem_filter.mp h).1
  unfold memSet at h
  split at h
  · exact .inl (her h)
  · exact (hins _ h).imp her id

theorem memGet_of_lt {lo size : Nat} {m : Memory} {a : Nat} (hm : memSorted lo size m = true) (ha : a < lo) :
    memGet m a = Config.initByte := by
  induction m generalizing lo with
  | nil => rfl
  | cons c r ih =>
    obtain ⟨k, v⟩ := c
    simp only [memSorted, Bool.and_eq_true, decide_eq_true_eq] at hm
    rw [memGet, if_neg (by omega)]
    exact ih hm.2 (by omega)

theorem memSorted_ext {lo size : Nat} {m n : Memory} (hm : memSorted lo size m = true) (hn : memSorted lo size n = true)
    (h : ∀ a, memGet m a = memGet n a) : m = n := by
  induction m generalizing lo n with
  | nil =>
    cases n with
    | nil => rfl
    | cons d r =>
      simp only [memSorted, Bool.and_eq_true, bne_iff_ne, decide_eq_true_eq] at hn
      have := h d.1
      simp only [memGet, if_true] at this
      exact absurd this.symm hn.1.2
  | cons c r ih =>
    obtain ⟨k, v⟩ := c
    simp only [memSorted, Bool.and_eq_true, bne_iff_ne, decide_eq_true_eq] at hm
    cases n with
    | nil =>
      have := h k
      simp only [memGet, if_true] at this
      exact absurd this hm.1.2
    | cons d t =>
      obtain ⟨j, u⟩ := d
      simp only [memSorted, Bool.and_eq_true, bne_iff_ne, decide_eq_true_eq] at hn
      have hkj : k = j := by
        rcases Nat.lt_trichotomy k j with hlt | heq | hlt
        · have := h k
          rw [memGet, if_pos rfl, memGet, if_neg (by omega), memGet_of_lt hn.2 (by omega)] at this
          exact absurd this hm.1.2
        · exact heq
        · have := h j
          rw [memGet, if_neg (by omega), memGet_of_lt hm.2 (by omega), memGet, if_pos rfl] at this
          exact absurd this.symm hn.1.2
      subst hkj
      have hv : v = u := by simpa [memGet] using h k
      subst hv
      rw [ih hm.2 hn.2 (fun a => by
        by_cases ha : a = k
        · subst ha; rw [memGet_of_lt hm.2 (by omega), memGet_of_lt hn.2 (by omega)]
        · simpa [memGet, Ne.symm ha] using h a)]

/-- In canonical form, memories that read alike are equal. -/
theorem Memory.wf_ext {size : Nat} {m n : Memory} (hm : Memory.wf size m = true) (hn : Memory.wf size n = true)
    (h : ∀ a, memGet m a = memGet n a) : m = n := memSorted_ext hm hn h

/-- The bytes of a laid-out string, and the initial byte outside it. -/
theorem memGet_memOfBytes (base : Nat) (bs : List Byte) (a : Nat) :
    memGet (memOfBytes base bs) a = if base ≤ a then bs.getD (a - base) Config.initByte else Config.initByte := by
  induction bs generalizing base with
  | nil => simp [memOfBytes, memGet]
  | cons b bs ih =>
    have key : (if base ≤ a then (b :: bs).getD (a - base) Config.initByte else Config.initByte) =
        if base = a then b else if base + 1 ≤ a then bs.getD (a - (base + 1)) Config.initByte else Config.initByte := by
      by_cases h1 : base = a
      · subst h1; simp
      · by_cases h2 : base + 1 ≤ a
        · rw [if_pos (by omega), if_neg h1, if_pos h2, show a - base = (a - (base + 1)) + 1 by omega, List.getD_cons_succ]
        · rw [if_neg (by omega), if_neg h1, if_neg h2]
    rw [key, memOfBytes]
    split
    · rename_i hb
      rw [ih]
      by_cases h1 : base = a
      · subst h1; simp [hb]
      · simp [h1]
    · rw [memGet, ih]

theorem memSorted_memOfBytes {base size : Nat} {bs : List Byte} (h : base + bs.length ≤ size) :
    memSorted base size (memOfBytes base bs) = true := by
  induction bs generalizing base with
  | nil => rfl
  | cons b bs ih =>
    have := @ih (base + 1) (by simp at h; omega)
    rw [memOfBytes]
    split
    · exact memSorted_mono (by omega) this
    · simp [memSorted, this]; exact ⟨by simp at h; omega, by assumption⟩

/-- Every cell of a laid-out string lies inside it. -/
theorem mem_memOfBytes {base : Nat} {bs : List Byte} {c : Host.Cell} (h : c ∈ memOfBytes base bs) :
    base ≤ c.1 ∧ c.1 < base + bs.length := by
  induction bs generalizing base with
  | nil => simp [memOfBytes] at h
  | cons b bs ih =>
    rw [memOfBytes] at h
    split at h
    · have := ih h; simp; omega
    · rcases List.mem_cons.mp h with rfl | h
      · simp
      · have := ih h; simp; omega

theorem memGet_append {m n : Memory} (a : Nat) (h : ∀ c ∈ m, c.1 ≠ a) : memGet (m ++ n) a = memGet n a := by
  induction m with
  | nil => rfl
  | cons c r ih =>
    obtain ⟨k, v⟩ := c
    rw [List.cons_append, memGet, if_neg (h (k, v) (by simp))]
    exact ih fun c hc => h c (List.mem_cons_of_mem _ hc)

theorem memGet_append_left {m n : Memory} (a : Nat) (h : ∀ c ∈ n, c.1 ≠ a) : memGet (m ++ n) a = memGet m a := by
  induction m with
  | nil =>
    induction n with
    | nil => rfl
    | cons c r ih =>
      obtain ⟨k, v⟩ := c
      simp only [List.nil_append] at ih ⊢
      have hk : k ≠ a := h (k, v) (by simp)
      simp only [memGet, if_neg hk] at ih ⊢
      exact ih fun c hc => h c (List.mem_cons_of_mem _ hc)
  | cons c r ih => obtain ⟨k, v⟩ := c; simp only [List.cons_append, memGet, ih]

theorem memSorted_append {lo mid size : Nat} {m n : Memory} (hm : memSorted lo mid m = true)
    (hn : memSorted mid size n = true) (hl : lo ≤ mid) (hs : mid ≤ size) : memSorted lo size (m ++ n) = true := by
  induction m generalizing lo with
  | nil => exact memSorted_mono hl hn
  | cons c r ih =>
    obtain ⟨k, v⟩ := c
    simp only [memSorted, Bool.and_eq_true, decide_eq_true_eq] at hm
    simp only [List.cons_append, memSorted, Bool.and_eq_true, decide_eq_true_eq]
    exact ⟨⟨⟨hm.1.1.1, by omega⟩, hm.1.2⟩, ih hm.2 (by omega)⟩

end Sys2Proof.Machine
end

