-- ==== Sys2Proof/Laws/State.lean ====
section
/-! SUPPORT. One lemma per field per update of the state: what each named update writes and what it leaves. -/

namespace Sys2Proof.Machine

@[simp] theorem advance_a (n : Word) (s : State) : (advance n s).a = s.a := rfl
@[simp] theorem advance_x (n : Word) (s : State) : (advance n s).x = s.x := rfl
@[simp] theorem advance_y (n : Word) (s : State) : (advance n s).y = s.y := rfl
@[simp] theorem advance_sp (n : Word) (s : State) : (advance n s).sp = s.sp := rfl
@[simp] theorem advance_p (n : Word) (s : State) : (advance n s).p = s.p := rfl
@[simp] theorem advance_pc (n : Word) (s : State) : (advance n s).pc = s.pc + n := rfl
@[simp] theorem advance_halted (n : Word) (s : State) : (advance n s).halted = s.halted := rfl
@[simp] theorem advance_cpuMem (n : Word) (s : State) : (advance n s).cpuMem = s.cpuMem := rfl
@[simp] theorem advance_ppuMem (n : Word) (s : State) : (advance n s).ppuMem = s.ppuMem := rfl
@[simp] theorem advance_oam (n : Word) (s : State) : (advance n s).oam = s.oam := rfl
@[simp] theorem advance_ppuctrl (n : Word) (s : State) : (advance n s).ppuctrl = s.ppuctrl := rfl
@[simp] theorem advance_ppumask (n : Word) (s : State) : (advance n s).ppumask = s.ppumask := rfl
@[simp] theorem advance_vblank (n : Word) (s : State) : (advance n s).vblank = s.vblank := rfl
@[simp] theorem advance_spr0hit (n : Word) (s : State) : (advance n s).spr0hit = s.spr0hit := rfl
@[simp] theorem advance_sprovf (n : Word) (s : State) : (advance n s).sprovf = s.sprovf := rfl
@[simp] theorem advance_oamaddr (n : Word) (s : State) : (advance n s).oamaddr = s.oamaddr := rfl
@[simp] theorem advance_scrollx (n : Word) (s : State) : (advance n s).scrollx = s.scrollx := rfl
@[simp] theorem advance_scrolly (n : Word) (s : State) : (advance n s).scrolly = s.scrolly := rfl
@[simp] theorem advance_vaddr (n : Word) (s : State) : (advance n s).vaddr = s.vaddr := rfl
@[simp] theorem advance_w (n : Word) (s : State) : (advance n s).w = s.w := rfl
@[simp] theorem advance_framebuf (n : Word) (s : State) : (advance n s).framebuf = s.framebuf := rfl
@[simp] theorem advance_phase (n : Word) (s : State) : (advance n s).phase = s.phase := rfl
@[simp] theorem advance_strobe (n : Word) (s : State) : (advance n s).strobe = s.strobe := rfl
@[simp] theorem advance_shift (n : Word) (s : State) : (advance n s).shift = s.shift := rfl
@[simp] theorem advance_mirroring (n : Word) (s : State) : (advance n s).mirroring = s.mirroring := rfl
@[simp] theorem advance_draws (n : Word) (s : State) : (advance n s).draws = s.draws := rfl
@[simp] theorem advance_cpuLeft (n : Word) (s : State) : (advance n s).cpuLeft = s.cpuLeft := rfl
@[simp] theorem advance_compositorLeft (n : Word) (s : State) : (advance n s).compositorLeft = s.compositorLeft := rfl
@[simp] theorem advance_presented (n : Word) (s : State) : (advance n s).presented = s.presented := rfl

@[simp] theorem raiseUnknownOpcode_a (op : Byte) (pc : Word) (s : State) : (raiseUnknownOpcode op pc s).a = s.a := rfl
@[simp] theorem raiseUnknownOpcode_x (op : Byte) (pc : Word) (s : State) : (raiseUnknownOpcode op pc s).x = s.x := rfl
@[simp] theorem raiseUnknownOpcode_y (op : Byte) (pc : Word) (s : State) : (raiseUnknownOpcode op pc s).y = s.y := rfl
@[simp] theorem raiseUnknownOpcode_sp (op : Byte) (pc : Word) (s : State) : (raiseUnknownOpcode op pc s).sp = s.sp := rfl
@[simp] theorem raiseUnknownOpcode_p (op : Byte) (pc : Word) (s : State) : (raiseUnknownOpcode op pc s).p = s.p := rfl
@[simp] theorem raiseUnknownOpcode_pc (op : Byte) (pc : Word) (s : State) : (raiseUnknownOpcode op pc s).pc = s.pc := rfl
@[simp] theorem raiseUnknownOpcode_halted (op : Byte) (pc : Word) (s : State) : (raiseUnknownOpcode op pc s).halted = some (.unknownOpcode op pc) := rfl
@[simp] theorem raiseUnknownOpcode_cpuMem (op : Byte) (pc : Word) (s : State) : (raiseUnknownOpcode op pc s).cpuMem = s.cpuMem := rfl
@[simp] theorem raiseUnknownOpcode_ppuMem (op : Byte) (pc : Word) (s : State) : (raiseUnknownOpcode op pc s).ppuMem = s.ppuMem := rfl
@[simp] theorem raiseUnknownOpcode_oam (op : Byte) (pc : Word) (s : State) : (raiseUnknownOpcode op pc s).oam = s.oam := rfl
@[simp] theorem raiseUnknownOpcode_ppuctrl (op : Byte) (pc : Word) (s : State) : (raiseUnknownOpcode op pc s).ppuctrl = s.ppuctrl := rfl
@[simp] theorem raiseUnknownOpcode_ppumask (op : Byte) (pc : Word) (s : State) : (raiseUnknownOpcode op pc s).ppumask = s.ppumask := rfl
@[simp] theorem raiseUnknownOpcode_vblank (op : Byte) (pc : Word) (s : State) : (raiseUnknownOpcode op pc s).vblank = s.vblank := rfl
@[simp] theorem raiseUnknownOpcode_spr0hit (op : Byte) (pc : Word) (s : State) : (raiseUnknownOpcode op pc s).spr0hit = s.spr0hit := rfl
@[simp] theorem raiseUnknownOpcode_sprovf (op : Byte) (pc : Word) (s : State) : (raiseUnknownOpcode op pc s).sprovf = s.sprovf := rfl
@[simp] theorem raiseUnknownOpcode_oamaddr (op : Byte) (pc : Word) (s : State) : (raiseUnknownOpcode op pc s).oamaddr = s.oamaddr := rfl
@[simp] theorem raiseUnknownOpcode_scrollx (op : Byte) (pc : Word) (s : State) : (raiseUnknownOpcode op pc s).scrollx = s.scrollx := rfl
@[simp] theorem raiseUnknownOpcode_scrolly (op : Byte) (pc : Word) (s : State) : (raiseUnknownOpcode op pc s).scrolly = s.scrolly := rfl
@[simp] theorem raiseUnknownOpcode_vaddr (op : Byte) (pc : Word) (s : State) : (raiseUnknownOpcode op pc s).vaddr = s.vaddr := rfl
@[simp] theorem raiseUnknownOpcode_w (op : Byte) (pc : Word) (s : State) : (raiseUnknownOpcode op pc s).w = s.w := rfl
@[simp] theorem raiseUnknownOpcode_framebuf (op : Byte) (pc : Word) (s : State) : (raiseUnknownOpcode op pc s).framebuf = s.framebuf := rfl
@[simp] theorem raiseUnknownOpcode_phase (op : Byte) (pc : Word) (s : State) : (raiseUnknownOpcode op pc s).phase = s.phase := rfl
@[simp] theorem raiseUnknownOpcode_strobe (op : Byte) (pc : Word) (s : State) : (raiseUnknownOpcode op pc s).strobe = s.strobe := rfl
@[simp] theorem raiseUnknownOpcode_shift (op : Byte) (pc : Word) (s : State) : (raiseUnknownOpcode op pc s).shift = s.shift := rfl
@[simp] theorem raiseUnknownOpcode_mirroring (op : Byte) (pc : Word) (s : State) : (raiseUnknownOpcode op pc s).mirroring = s.mirroring := rfl
@[simp] theorem raiseUnknownOpcode_draws (op : Byte) (pc : Word) (s : State) : (raiseUnknownOpcode op pc s).draws = s.draws := rfl
@[simp] theorem raiseUnknownOpcode_cpuLeft (op : Byte) (pc : Word) (s : State) : (raiseUnknownOpcode op pc s).cpuLeft = s.cpuLeft := rfl
@[simp] theorem raiseUnknownOpcode_compositorLeft (op : Byte) (pc : Word) (s : State) : (raiseUnknownOpcode op pc s).compositorLeft = s.compositorLeft := rfl
@[simp] theorem raiseUnknownOpcode_presented (op : Byte) (pc : Word) (s : State) : (raiseUnknownOpcode op pc s).presented = s.presented := rfl

@[simp] theorem spendCpuStep_a (s : State) : (spendCpuStep s).a = s.a := rfl
@[simp] theorem spendCpuStep_x (s : State) : (spendCpuStep s).x = s.x := rfl
@[simp] theorem spendCpuStep_y (s : State) : (spendCpuStep s).y = s.y := rfl
@[simp] theorem spendCpuStep_sp (s : State) : (spendCpuStep s).sp = s.sp := rfl
@[simp] theorem spendCpuStep_p (s : State) : (spendCpuStep s).p = s.p := rfl
@[simp] theorem spendCpuStep_pc (s : State) : (spendCpuStep s).pc = s.pc := rfl
@[simp] theorem spendCpuStep_halted (s : State) : (spendCpuStep s).halted = s.halted := rfl
@[simp] theorem spendCpuStep_cpuMem (s : State) : (spendCpuStep s).cpuMem = s.cpuMem := rfl
@[simp] theorem spendCpuStep_ppuMem (s : State) : (spendCpuStep s).ppuMem = s.ppuMem := rfl
@[simp] theorem spendCpuStep_oam (s : State) : (spendCpuStep s).oam = s.oam := rfl
@[simp] theorem spendCpuStep_ppuctrl (s : State) : (spendCpuStep s).ppuctrl = s.ppuctrl := rfl
@[simp] theorem spendCpuStep_ppumask (s : State) : (spendCpuStep s).ppumask = s.ppumask := rfl
@[simp] theorem spendCpuStep_vblank (s : State) : (spendCpuStep s).vblank = s.vblank := rfl
@[simp] theorem spendCpuStep_spr0hit (s : State) : (spendCpuStep s).spr0hit = s.spr0hit := rfl
@[simp] theorem spendCpuStep_sprovf (s : State) : (spendCpuStep s).sprovf = s.sprovf := rfl
@[simp] theorem spendCpuStep_oamaddr (s : State) : (spendCpuStep s).oamaddr = s.oamaddr := rfl
@[simp] theorem spendCpuStep_scrollx (s : State) : (spendCpuStep s).scrollx = s.scrollx := rfl
@[simp] theorem spendCpuStep_scrolly (s : State) : (spendCpuStep s).scrolly = s.scrolly := rfl
@[simp] theorem spendCpuStep_vaddr (s : State) : (spendCpuStep s).vaddr = s.vaddr := rfl
@[simp] theorem spendCpuStep_w (s : State) : (spendCpuStep s).w = s.w := rfl
@[simp] theorem spendCpuStep_framebuf (s : State) : (spendCpuStep s).framebuf = s.framebuf := rfl
@[simp] theorem spendCpuStep_phase (s : State) : (spendCpuStep s).phase = s.phase := rfl
@[simp] theorem spendCpuStep_strobe (s : State) : (spendCpuStep s).strobe = s.strobe := rfl
@[simp] theorem spendCpuStep_shift (s : State) : (spendCpuStep s).shift = s.shift := rfl
@[simp] theorem spendCpuStep_mirroring (s : State) : (spendCpuStep s).mirroring = s.mirroring := rfl
@[simp] theorem spendCpuStep_draws (s : State) : (spendCpuStep s).draws = s.draws := rfl
@[simp] theorem spendCpuStep_cpuLeft (s : State) : (spendCpuStep s).cpuLeft = s.cpuLeft - 1 := rfl
@[simp] theorem spendCpuStep_compositorLeft (s : State) : (spendCpuStep s).compositorLeft = s.compositorLeft := rfl
@[simp] theorem spendCpuStep_presented (s : State) : (spendCpuStep s).presented = s.presented := rfl

@[simp] theorem reloadShift_a (s : State) : (reloadShift s).a = s.a := rfl
@[simp] theorem reloadShift_x (s : State) : (reloadShift s).x = s.x := rfl
@[simp] theorem reloadShift_y (s : State) : (reloadShift s).y = s.y := rfl
@[simp] theorem reloadShift_sp (s : State) : (reloadShift s).sp = s.sp := rfl
@[simp] theorem reloadShift_p (s : State) : (reloadShift s).p = s.p := rfl
@[simp] theorem reloadShift_pc (s : State) : (reloadShift s).pc = s.pc := rfl
@[simp] theorem reloadShift_halted (s : State) : (reloadShift s).halted = s.halted := rfl
@[simp] theorem reloadShift_cpuMem (s : State) : (reloadShift s).cpuMem = s.cpuMem := rfl
@[simp] theorem reloadShift_ppuMem (s : State) : (reloadShift s).ppuMem = s.ppuMem := rfl
@[simp] theorem reloadShift_oam (s : State) : (reloadShift s).oam = s.oam := rfl
@[simp] theorem reloadShift_ppuctrl (s : State) : (reloadShift s).ppuctrl = s.ppuctrl := rfl
@[simp] theorem reloadShift_ppumask (s : State) : (reloadShift s).ppumask = s.ppumask := rfl
@[simp] theorem reloadShift_vblank (s : State) : (reloadShift s).vblank = s.vblank := rfl
@[simp] theorem reloadShift_spr0hit (s : State) : (reloadShift s).spr0hit = s.spr0hit := rfl
@[simp] theorem reloadShift_sprovf (s : State) : (reloadShift s).sprovf = s.sprovf := rfl
@[simp] theorem reloadShift_oamaddr (s : State) : (reloadShift s).oamaddr = s.oamaddr := rfl
@[simp] theorem reloadShift_scrollx (s : State) : (reloadShift s).scrollx = s.scrollx := rfl
@[simp] theorem reloadShift_scrolly (s : State) : (reloadShift s).scrolly = s.scrolly := rfl
@[simp] theorem reloadShift_vaddr (s : State) : (reloadShift s).vaddr = s.vaddr := rfl
@[simp] theorem reloadShift_w (s : State) : (reloadShift s).w = s.w := rfl
@[simp] theorem reloadShift_framebuf (s : State) : (reloadShift s).framebuf = s.framebuf := rfl
@[simp] theorem reloadShift_phase (s : State) : (reloadShift s).phase = s.phase := rfl
@[simp] theorem reloadShift_strobe (s : State) : (reloadShift s).strobe = s.strobe := rfl
@[simp] theorem reloadShift_shift (s : State) : (reloadShift s).shift = Config.buttons s.draws := rfl
@[simp] theorem reloadShift_mirroring (s : State) : (reloadShift s).mirroring = s.mirroring := rfl
@[simp] theorem reloadShift_draws (s : State) : (reloadShift s).draws = s.draws + 1 := rfl
@[simp] theorem reloadShift_cpuLeft (s : State) : (reloadShift s).cpuLeft = s.cpuLeft := rfl
@[simp] theorem reloadShift_compositorLeft (s : State) : (reloadShift s).compositorLeft = s.compositorLeft := rfl
@[simp] theorem reloadShift_presented (s : State) : (reloadShift s).presented = s.presented := rfl

@[simp] theorem render_a (s : State) : (render s).a = s.a := rfl
@[simp] theorem render_x (s : State) : (render s).x = s.x := rfl
@[simp] theorem render_y (s : State) : (render s).y = s.y := rfl
@[simp] theorem render_sp (s : State) : (render s).sp = s.sp := rfl
@[simp] theorem render_p (s : State) : (render s).p = s.p := rfl
@[simp] theorem render_pc (s : State) : (render s).pc = s.pc := rfl
@[simp] theorem render_halted (s : State) : (render s).halted = s.halted := rfl
@[simp] theorem render_cpuMem (s : State) : (render s).cpuMem = s.cpuMem := rfl
@[simp] theorem render_ppuMem (s : State) : (render s).ppuMem = s.ppuMem := rfl
@[simp] theorem render_oam (s : State) : (render s).oam = s.oam := rfl
@[simp] theorem render_ppuctrl (s : State) : (render s).ppuctrl = s.ppuctrl := rfl
@[simp] theorem render_ppumask (s : State) : (render s).ppumask = s.ppumask := rfl
@[simp] theorem render_vblank (s : State) : (render s).vblank = s.vblank := rfl
@[simp] theorem render_spr0hit (s : State) : (render s).spr0hit = (s.spr0hit || spriteZeroHit (snapshotOf s)) := rfl
@[simp] theorem render_sprovf (s : State) : (render s).sprovf = s.sprovf := rfl
@[simp] theorem render_oamaddr (s : State) : (render s).oamaddr = s.oamaddr := rfl
@[simp] theorem render_scrollx (s : State) : (render s).scrollx = s.scrollx := rfl
@[simp] theorem render_scrolly (s : State) : (render s).scrolly = s.scrolly := rfl
@[simp] theorem render_vaddr (s : State) : (render s).vaddr = s.vaddr := rfl
@[simp] theorem render_w (s : State) : (render s).w = s.w := rfl
@[simp] theorem render_framebuf (s : State) : (render s).framebuf = frameOf (snapshotOf s) := rfl
@[simp] theorem render_phase (s : State) : (render s).phase = .rendered := rfl
@[simp] theorem render_strobe (s : State) : (render s).strobe = s.strobe := rfl
@[simp] theorem render_shift (s : State) : (render s).shift = s.shift := rfl
@[simp] theorem render_mirroring (s : State) : (render s).mirroring = s.mirroring := rfl
@[simp] theorem render_draws (s : State) : (render s).draws = s.draws := rfl
@[simp] theorem render_cpuLeft (s : State) : (render s).cpuLeft = s.cpuLeft := rfl
@[simp] theorem render_compositorLeft (s : State) : (render s).compositorLeft = s.compositorLeft := rfl
@[simp] theorem render_presented (s : State) : (render s).presented = s.presented := rfl

@[simp] theorem vblankBegin_a (s : State) : (vblankBegin s).a = s.a := rfl
@[simp] theorem vblankBegin_x (s : State) : (vblankBegin s).x = s.x := rfl
@[simp] theorem vblankBegin_y (s : State) : (vblankBegin s).y = s.y := rfl
@[simp] theorem vblankBegin_sp (s : State) : (vblankBegin s).sp = s.sp := rfl
@[simp] theorem vblankBegin_p (s : State) : (vblankBegin s).p = s.p := rfl
@[simp] theorem vblankBegin_pc (s : State) : (vblankBegin s).pc = s.pc := rfl
@[simp] theorem vblankBegin_halted (s : State) : (vblankBegin s).halted = s.halted := rfl
@[simp] theorem vblankBegin_cpuMem (s : State) : (vblankBegin s).cpuMem = s.cpuMem := rfl
@[simp] theorem vblankBegin_ppuMem (s : State) : (vblankBegin s).ppuMem = s.ppuMem := rfl
@[simp] theorem vblankBegin_oam (s : State) : (vblankBegin s).oam = s.oam := rfl
@[simp] theorem vblankBegin_ppuctrl (s : State) : (vblankBegin s).ppuctrl = s.ppuctrl := rfl
@[simp] theorem vblankBegin_ppumask (s : State) : (vblankBegin s).ppumask = s.ppumask := rfl
@[simp] theorem vblankBegin_vblank (s : State) : (vblankBegin s).vblank = true := rfl
@[simp] theorem vblankBegin_spr0hit (s : State) : (vblankBegin s).spr0hit = s.spr0hit := rfl
@[simp] theorem vblankBegin_sprovf (s : State) : (vblankBegin s).sprovf = s.sprovf := rfl
@[simp] theorem vblankBegin_oamaddr (s : State) : (vblankBegin s).oamaddr = s.oamaddr := rfl
@[simp] theorem vblankBegin_scrollx (s : State) : (vblankBegin s).scrollx = s.scrollx := rfl
@[simp] theorem vblankBegin_scrolly (s : State) : (vblankBegin s).scrolly = s.scrolly := rfl
@[simp] theorem vblankBegin_vaddr (s : State) : (vblankBegin s).vaddr = s.vaddr := rfl
@[simp] theorem vblankBegin_w (s : State) : (vblankBegin s).w = s.w := rfl
@[simp] theorem vblankBegin_framebuf (s : State) : (vblankBegin s).framebuf = s.framebuf := rfl
@[simp] theorem vblankBegin_phase (s : State) : (vblankBegin s).phase = .inVBlank := rfl
@[simp] theorem vblankBegin_strobe (s : State) : (vblankBegin s).strobe = s.strobe := rfl
@[simp] theorem vblankBegin_shift (s : State) : (vblankBegin s).shift = s.shift := rfl
@[simp] theorem vblankBegin_mirroring (s : State) : (vblankBegin s).mirroring = s.mirroring := rfl
@[simp] theorem vblankBegin_draws (s : State) : (vblankBegin s).draws = s.draws := rfl
@[simp] theorem vblankBegin_cpuLeft (s : State) : (vblankBegin s).cpuLeft = s.cpuLeft := rfl
@[simp] theorem vblankBegin_compositorLeft (s : State) : (vblankBegin s).compositorLeft = s.compositorLeft := rfl
@[simp] theorem vblankBegin_presented (s : State) : (vblankBegin s).presented = s.framebuf :: s.presented := rfl

@[simp] theorem vblankEnd_a (s : State) : (vblankEnd s).a = s.a := rfl
@[simp] theorem vblankEnd_x (s : State) : (vblankEnd s).x = s.x := rfl
@[simp] theorem vblankEnd_y (s : State) : (vblankEnd s).y = s.y := rfl
@[simp] theorem vblankEnd_sp (s : State) : (vblankEnd s).sp = s.sp := rfl
@[simp] theorem vblankEnd_p (s : State) : (vblankEnd s).p = s.p := rfl
@[simp] theorem vblankEnd_pc (s : State) : (vblankEnd s).pc = s.pc := rfl
@[simp] theorem vblankEnd_halted (s : State) : (vblankEnd s).halted = s.halted := rfl
@[simp] theorem vblankEnd_cpuMem (s : State) : (vblankEnd s).cpuMem = s.cpuMem := rfl
@[simp] theorem vblankEnd_ppuMem (s : State) : (vblankEnd s).ppuMem = s.ppuMem := rfl
@[simp] theorem vblankEnd_oam (s : State) : (vblankEnd s).oam = s.oam := rfl
@[simp] theorem vblankEnd_ppuctrl (s : State) : (vblankEnd s).ppuctrl = s.ppuctrl := rfl
@[simp] theorem vblankEnd_ppumask (s : State) : (vblankEnd s).ppumask = s.ppumask := rfl
@[simp] theorem vblankEnd_vblank (s : State) : (vblankEnd s).vblank = false := rfl
@[simp] theorem vblankEnd_spr0hit (s : State) : (vblankEnd s).spr0hit = false := rfl
@[simp] theorem vblankEnd_sprovf (s : State) : (vblankEnd s).sprovf = s.sprovf := rfl
@[simp] theorem vblankEnd_oamaddr (s : State) : (vblankEnd s).oamaddr = s.oamaddr := rfl
@[simp] theorem vblankEnd_scrollx (s : State) : (vblankEnd s).scrollx = s.scrollx := rfl
@[simp] theorem vblankEnd_scrolly (s : State) : (vblankEnd s).scrolly = s.scrolly := rfl
@[simp] theorem vblankEnd_vaddr (s : State) : (vblankEnd s).vaddr = s.vaddr := rfl
@[simp] theorem vblankEnd_w (s : State) : (vblankEnd s).w = s.w := rfl
@[simp] theorem vblankEnd_framebuf (s : State) : (vblankEnd s).framebuf = s.framebuf := rfl
@[simp] theorem vblankEnd_phase (s : State) : (vblankEnd s).phase = .idle := rfl
@[simp] theorem vblankEnd_strobe (s : State) : (vblankEnd s).strobe = s.strobe := rfl
@[simp] theorem vblankEnd_shift (s : State) : (vblankEnd s).shift = s.shift := rfl
@[simp] theorem vblankEnd_mirroring (s : State) : (vblankEnd s).mirroring = s.mirroring := rfl
@[simp] theorem vblankEnd_draws (s : State) : (vblankEnd s).draws = s.draws := rfl
@[simp] theorem vblankEnd_cpuLeft (s : State) : (vblankEnd s).cpuLeft = s.cpuLeft := rfl
@[simp] theorem vblankEnd_compositorLeft (s : State) : (vblankEnd s).compositorLeft = s.compositorLeft := rfl
@[simp] theorem vblankEnd_presented (s : State) : (vblankEnd s).presented = s.presented := rfl

end Sys2Proof.Machine
end

