-- ==== Sys2Proof/Laws/Access.lean ====
section
/-! SUPPORT. What a read or a write of the CPU's address space can do: the classes of addresses, the exact frame
of each access, and the plain accesses of page 0, the stack page and the vectors. -/

namespace Sys2Proof.Machine

/-- R63: an address outside the window and the port is storage. -/
theorem classify_plain {a : Word} (h : a.toNat < 0x2000 ∨ 0x3FFF < a.toNat) (hc : a.toNat ≠ 0x4016) :
    classify a = .plain := by
  unfold classify Config.ppuRegWindow Config.ppuRegMirrorEnd Config.controllerPort
  rw [if_neg (by omega), if_neg hc]

theorem classify_window {a : Word} (h : 0x2000 ≤ a.toNat) (h' : a.toNat ≤ 0x3FFF) :
    classify a = .ppuReg (ppuRegAt a) := by
  unfold classify Config.ppuRegWindow Config.ppuRegMirrorEnd
  rw [if_pos ⟨h, h'⟩]

theorem classify_port : classify 0x4016 = .controller := by decide

/-- R68: page 0 is storage. -/
@[simp] theorem classify_zeroPage (b : Byte) : classify (zext16 b) = .plain := by
  have := b.isLt
  refine classify_plain (.inl ?_) ?_ <;> simp [zext16] <;> omega

theorem word_toNat (lo hi : Byte) : (word lo hi).toNat = hi.toNat * 256 + lo.toNat := by
  have h : (word lo hi).toNat = hi.toNat <<< 8 ||| lo.toNat := BitVec.toNat_append ..
  rw [h, Nat.shiftLeft_eq, Nat.mul_comm, ← Nat.two_pow_add_eq_or_of_lt lo.isLt]

theorem stackAddr_toNat (sp : Byte) : (stackAddr sp).toNat = 256 + sp.toNat := by
  rw [stackAddr, word_toNat]; rfl

/-- R68: the stack page is storage. -/
@[simp] theorem classify_stack (sp : Byte) : classify (stackAddr sp) = .plain := by
  have := sp.isLt
  refine classify_plain (.inl ?_) ?_ <;> rw [stackAddr_toNat] <;> omega

@[simp] theorem classify_irqVector : classify irqVector = .plain := by decide

@[simp] theorem classify_irqVector_high : classify (irqVector + 1#16) = .plain := by decide

/-- R64: a read of storage has no side effect. -/
theorem memRead_plain {a : Word} (s : State) (h : classify a = .plain) :
    memRead a s = (memGet s.cpuMem a.toNat, s) := by simp [memRead, h]

/-- R65, R66: a write of storage lands (no write protection). -/
theorem memWrite_plain {a : Word} (v : Byte) (s : State) (h : classify a = .plain) :
    memWrite a v s = { s with cpuMem := memSet s.cpuMem a.toNat v } := by
  simp [memWrite, h, romProtected, Config.romWriteProtect]

/-- R64, R65, R271: an access to the register window. -/
theorem memRead_ppuReg {a : Word} {k : PpuReg} (s : State) (h : classify a = .ppuReg k) :
    memRead a s = readPpuReg k s := by simp [memRead, h]

theorem memWrite_ppuReg {a : Word} {k : PpuReg} (v : Byte) (s : State) (h : classify a = .ppuReg k) :
    memWrite a v s = writePpuReg k v s := by simp [memWrite, h]

/-- R64, R65, R300, R301: an access to the controller port. -/
theorem memRead_controller {a : Word} (s : State) (h : classify a = .controller) :
    memRead a s = readController s := by simp [memRead, h]

theorem memWrite_controller {a : Word} (v : Byte) (s : State) (h : classify a = .controller) :
    memWrite a v s = writeController v s := by simp [memWrite, h]

/-- R79: all a read can change. -/
theorem memRead_frame (a : Word) (s : State) :
    (memRead a s).2 = { s with
      vblank := (memRead a s).2.vblank, w := (memRead a s).2.w, vaddr := (memRead a s).2.vaddr,
      shift := (memRead a s).2.shift, draws := (memRead a s).2.draws } := by
  unfold memRead
  split
  · rfl
  · unfold readPpuReg; split <;> rfl
  · unfold readController reloadShift; split <;> rfl

/-- R65, R79: all a write can change. -/
theorem memWrite_frame (a : Word) (v : Byte) (s : State) :
    memWrite a v s = { s with
      cpuMem := (memWrite a v s).cpuMem, ppuMem := (memWrite a v s).ppuMem, oam := (memWrite a v s).oam,
      ppuctrl := (memWrite a v s).ppuctrl, ppumask := (memWrite a v s).ppumask, oamaddr := (memWrite a v s).oamaddr,
      scrollx := (memWrite a v s).scrollx, scrolly := (memWrite a v s).scrolly, vaddr := (memWrite a v s).vaddr,
      w := (memWrite a v s).w, strobe := (memWrite a v s).strobe, shift := (memWrite a v s).shift,
      draws := (memWrite a v s).draws } := by
  unfold memWrite
  split
  · split <;> rfl
  · unfold writePpuReg; split <;> first | rfl | (split <;> rfl)
  · unfold writeController reloadShift; split <;> rfl

@[simp] theorem memRead_a (a : Word) (s : State) : (memRead a s).2.a = s.a := by rw [memRead_frame]
@[simp] theorem memRead_x (a : Word) (s : State) : (memRead a s).2.x = s.x := by rw [memRead_frame]
@[simp] theorem memRead_y (a : Word) (s : State) : (memRead a s).2.y = s.y := by rw [memRead_frame]
@[simp] theorem memRead_sp (a : Word) (s : State) : (memRead a s).2.sp = s.sp := by rw [memRead_frame]
@[simp] theorem memRead_p (a : Word) (s : State) : (memRead a s).2.p = s.p := by rw [memRead_frame]
@[simp] theorem memRead_pc (a : Word) (s : State) : (memRead a s).2.pc = s.pc := by rw [memRead_frame]
@[simp] theorem memRead_halted (a : Word) (s : State) : (memRead a s).2.halted = s.halted := by rw [memRead_frame]
@[simp] theorem memRead_cpuMem (a : Word) (s : State) : (memRead a s).2.cpuMem = s.cpuMem := by rw [memRead_frame]
@[simp] theorem memRead_ppuMem (a : Word) (s : State) : (memRead a s).2.ppuMem = s.ppuMem := by rw [memRead_frame]
@[simp] theorem memRead_oam (a : Word) (s : State) : (memRead a s).2.oam = s.oam := by rw [memRead_frame]
@[simp] theorem memRead_ppuctrl (a : Word) (s : State) : (memRead a s).2.ppuctrl = s.ppuctrl := by rw [memRead_frame]
@[simp] theorem memRead_ppumask (a : Word) (s : State) : (memRead a s).2.ppumask = s.ppumask := by rw [memRead_frame]
@[simp] theorem memRead_spr0hit (a : Word) (s : State) : (memRead a s).2.spr0hit = s.spr0hit := by rw [memRead_frame]
@[simp] theorem memRead_sprovf (a : Word) (s : State) : (memRead a s).2.sprovf = s.sprovf := by rw [memRead_frame]
@[simp] theorem memRead_oamaddr (a : Word) (s : State) : (memRead a s).2.oamaddr = s.oamaddr := by rw [memRead_frame]
@[simp] theorem memRead_scrollx (a : Word) (s : State) : (memRead a s).2.scrollx = s.scrollx := by rw [memRead_frame]
@[simp] theorem memRead_scrolly (a : Word) (s : State) : (memRead a s).2.scrolly = s.scrolly := by rw [memRead_frame]
@[simp] theorem memRead_framebuf (a : Word) (s : State) : (memRead a s).2.framebuf = s.framebuf := by rw [memRead_frame]
@[simp] theorem memRead_phase (a : Word) (s : State) : (memRead a s).2.phase = s.phase := by rw [memRead_frame]
@[simp] theorem memRead_strobe (a : Word) (s : State) : (memRead a s).2.strobe = s.strobe := by rw [memRead_frame]
@[simp] theorem memRead_mirroring (a : Word) (s : State) : (memRead a s).2.mirroring = s.mirroring := by rw [memRead_frame]
@[simp] theorem memRead_cpuLeft (a : Word) (s : State) : (memRead a s).2.cpuLeft = s.cpuLeft := by rw [memRead_frame]
@[simp] theorem memRead_compositorLeft (a : Word) (s : State) : (memRead a s).2.compositorLeft = s.compositorLeft := by rw [memRead_frame]
@[simp] theorem memRead_presented (a : Word) (s : State) : (memRead a s).2.presented = s.presented := by rw [memRead_frame]

@[simp] theorem memWrite_a (a : Word) (v : Byte) (s : State) : (memWrite a v s).a = s.a := by rw [memWrite_frame]
@[simp] theorem memWrite_x (a : Word) (v : Byte) (s : State) : (memWrite a v s).x = s.x := by rw [memWrite_frame]
@[simp] theorem memWrite_y (a : Word) (v : Byte) (s : State) : (memWrite a v s).y = s.y := by rw [memWrite_frame]
@[simp] theorem memWrite_sp (a : Word) (v : Byte) (s : State) : (memWrite a v s).sp = s.sp := by rw [memWrite_frame]
@[simp] theorem memWrite_p (a : Word) (v : Byte) (s : State) : (memWrite a v s).p = s.p := by rw [memWrite_frame]
@[simp] theorem memWrite_pc (a : Word) (v : Byte) (s : State) : (memWrite a v s).pc = s.pc := by rw [memWrite_frame]
@[simp] theorem memWrite_halted (a : Word) (v : Byte) (s : State) : (memWrite a v s).halted = s.halted := by rw [memWrite_frame]
@[simp] theorem memWrite_vblank (a : Word) (v : Byte) (s : State) : (memWrite a v s).vblank = s.vblank := by rw [memWrite_frame]
@[simp] theorem memWrite_spr0hit (a : Word) (v : Byte) (s : State) : (memWrite a v s).spr0hit = s.spr0hit := by rw [memWrite_frame]
@[simp] theorem memWrite_sprovf (a : Word) (v : Byte) (s : State) : (memWrite a v s).sprovf = s.sprovf := by rw [memWrite_frame]
@[simp] theorem memWrite_framebuf (a : Word) (v : Byte) (s : State) : (memWrite a v s).framebuf = s.framebuf := by rw [memWrite_frame]
@[simp] theorem memWrite_phase (a : Word) (v : Byte) (s : State) : (memWrite a v s).phase = s.phase := by rw [memWrite_frame]
@[simp] theorem memWrite_mirroring (a : Word) (v : Byte) (s : State) : (memWrite a v s).mirroring = s.mirroring := by rw [memWrite_frame]
@[simp] theorem memWrite_cpuLeft (a : Word) (v : Byte) (s : State) : (memWrite a v s).cpuLeft = s.cpuLeft := by rw [memWrite_frame]
@[simp] theorem memWrite_compositorLeft (a : Word) (v : Byte) (s : State) : (memWrite a v s).compositorLeft = s.compositorLeft := by rw [memWrite_frame]
@[simp] theorem memWrite_presented (a : Word) (v : Byte) (s : State) : (memWrite a v s).presented = s.presented := by rw [memWrite_frame]

/-- A write to a device register leaves the CPU memory (R65). -/
theorem memWrite_device_cpuMem {a : Word} (v : Byte) (s : State) (h : classify a ≠ .plain) :
    (memWrite a v s).cpuMem = s.cpuMem := by
  unfold memWrite
  split
  · contradiction
  · unfold writePpuReg; split <;> first | rfl | (split <;> rfl)
  · unfold writeController reloadShift; split <;> rfl

end Sys2Proof.Machine
end

