-- ==== Sys2Proof/Laws/Flags.lean ====
section
/-! SUPPORT. The laws of the status byte and of the flag computations. -/

namespace Sys2Proof.Machine

/-- A flag reads as last written; the others keep their bit. -/
theorem flagOf_withFlag (f g : Flag) (x : Bool) (p : Byte) :
    flagOf f (withFlag g x p) = if f = g then x else flagOf f p := by
  cases f <;> cases g <;> cases x <;> simp [flagOf, withFlag, flagBit]

@[simp] theorem flagOf_withFlag_same (f : Flag) (x : Bool) (p : Byte) : flagOf f (withFlag f x p) = x := by
  simp [flagOf_withFlag]

/-- `SetZN` writes Z and N and nothing else. -/
theorem flagOf_withZN (f : Flag) (v p : Byte) :
    flagOf f (withZN v p) = if f = .n then v.msb else if f = .z then v == 0 else flagOf f p := by
  simp [withZN, flagOf_withFlag]

/-- A pulled status has B clear and U set; the six flags come from the pulled byte. -/
theorem flagOf_loadedStatus (f : Flag) (v : Byte) :
    flagOf f (loadedStatus v) = if f = .b then false else if f = .u then true else flagOf f v := by
  cases f <;> simp [flagOf, loadedStatus, flagBit]

/-- A pushed status has B and U set; the six flags are P's. -/
theorem flagOf_pushedStatus (f : Flag) (p : Byte) :
    flagOf f (pushedStatus p) = if f = .b ∨ f = .u then true else flagOf f p := by
  cases f <;> simp [flagOf, pushedStatus, flagBit]

/-- Two status bytes with the same eight flags are equal. -/
theorem status_ext {p q : Byte} (h : ∀ f, flagOf f p = flagOf f q) : p = q := by
  apply BitVec.eq_of_getLsbD_eq
  intro i hi
  have := h .c; have := h .z; have := h .i; have := h .d; have := h .b; have := h .u; have := h .v; have := h .n
  simp only [flagOf, flagBit] at *
  interval_cases i <;> assumption

/-- What PHP or BRK pushed loads back as it was (R33, R34). -/
theorem loadedStatus_pushedStatus {p : Byte} (hb : flagOf .b p = false) (hu : flagOf .u p = true) :
    loadedStatus (pushedStatus p) = p := by
  apply status_ext
  intro f
  cases f <;> simp [flagOf_loadedStatus, flagOf_pushedStatus, hb, hu]

/-- The 9-bit sum, as a number. -/
theorem addCarry_toNat (a m : Byte) (c : Bool) : (addCarry a m c).toNat = a.toNat + m.toNat + c.toNat := by
  have ha := a.isLt
  have hm := m.isLt
  cases c <;> simp [addCarry, BitVec.toNat_add] <;> omega

theorem addCarry_msb (a m : Byte) (c : Bool) : (addCarry a m c).msb = decide (256 ≤ a.toNat + m.toNat + c.toNat) := by
  rw [BitVec.msb_eq_decide, addCarry_toNat]

theorem addCarry_low (a m : Byte) (c : Bool) :
    ((addCarry a m c).setWidth 8).toNat = (a.toNat + m.toNat + c.toNat) % 256 := by
  rw [BitVec.toNat_setWidth, addCarry_toNat]

/-- The complement of a byte, as a number. -/
theorem complement_toNat (m : Byte) : (m ^^^ 0xFF).toNat = 255 - m.toNat := by
  rw [show (0xFF : Byte) = BitVec.allOnes 8 from rfl, BitVec.xor_allOnes, BitVec.toNat_not]

end Sys2Proof.Machine
end

