-- ==== Sys2Proof/Laws/Operands.lean ====
section
/-! SUPPORT. The stack operations and the addressing resolver as equations: both touch storage only, so each is
one record update or none. -/

namespace Sys2Proof.Machine

/-- R11: a push stores in the stack page and decrements S. -/
theorem push_eq (v : Byte) (s : State) :
    push v s = { s with cpuMem := memSet s.cpuMem (stackAddr s.sp).toNat v, sp := s.sp - 1 } := by
  simp [push, memWrite_plain]

/-- R11: a pull increments S and reads the stack page. -/
theorem pull_eq (s : State) :
    pull s = (memGet s.cpuMem (stackAddr (s.sp + 1)).toNat, { s with sp := s.sp + 1 }) := by
  simp [pull, memRead_plain]

theorem pushWord_eq (v : Word) (s : State) :
    pushWord v s = { s with
      cpuMem := memSet (memSet s.cpuMem (stackAddr s.sp).toNat (highByte v)) (stackAddr (s.sp - 1)).toNat (lowByte v)
      sp := s.sp - 1 - 1 } := by
  simp [pushWord, push_eq]

theorem pullWord_eq (s : State) :
    pullWord s = (word (memGet s.cpuMem (stackAddr (s.sp + 1)).toNat) (memGet s.cpuMem (stackAddr (s.sp + 1 + 1)).toNat),
      { s with sp := s.sp + 1 + 1 }) := by
  simp [pullWord, pull_eq]

/-- R141, R142: the pointer reads are of page 0 and have no side effect. -/
theorem zeroPageWord_eq (b : Byte) (s : State) :
    zeroPageWord b s = (word (memGet s.cpuMem (zext16 b).toNat) (memGet s.cpuMem (zext16 (b + 1)).toNat), s) := by
  simp [zeroPageWord, memRead_plain]

/-- R130: resolving a data operand changes no state. -/
@[simp] theorem effAddr_state (o : Operand) (s : State) : (effAddr o s).2 = s := by
  cases o <;> simp [effAddr, zeroPageWord_eq]

/-- R79, R130: all that reading an operand can change. -/
theorem readOperand_frame (o : Operand) (s : State) :
    (readOperand o s).2 = { s with
      vblank := (readOperand o s).2.vblank, w := (readOperand o s).2.w, vaddr := (readOperand o s).2.vaddr,
      shift := (readOperand o s).2.shift, draws := (readOperand o s).2.draws } := by
  cases o <;> simp only [readOperand, effAddr_state] <;> first | rfl | exact memRead_frame _ _

@[simp] theorem readOperand_a (o : Operand) (s : State) : (readOperand o s).2.a = s.a := by rw [readOperand_frame]
@[simp] theorem readOperand_x (o : Operand) (s : State) : (readOperand o s).2.x = s.x := by rw [readOperand_frame]
@[simp] theorem readOperand_y (o : Operand) (s : State) : (readOperand o s).2.y = s.y := by rw [readOperand_frame]
@[simp] theorem readOperand_sp (o : Operand) (s : State) : (readOperand o s).2.sp = s.sp := by rw [readOperand_frame]
@[simp] theorem readOperand_p (o : Operand) (s : State) : (readOperand o s).2.p = s.p := by rw [readOperand_frame]
@[simp] theorem readOperand_pc (o : Operand) (s : State) : (readOperand o s).2.pc = s.pc := by rw [readOperand_frame]
@[simp] theorem readOperand_halted (o : Operand) (s : State) : (readOperand o s).2.halted = s.halted := by rw [readOperand_frame]
@[simp] theorem readOperand_cpuMem (o : Operand) (s : State) : (readOperand o s).2.cpuMem = s.cpuMem := by rw [readOperand_frame]
@[simp] theorem readOperand_ppuMem (o : Operand) (s : State) : (readOperand o s).2.ppuMem = s.ppuMem := by rw [readOperand_frame]
@[simp] theorem readOperand_oam (o : Operand) (s : State) : (readOperand o s).2.oam = s.oam := by rw [readOperand_frame]
@[simp] theorem readOperand_phase (o : Operand) (s : State) : (readOperand o s).2.phase = s.phase := by rw [readOperand_frame]
@[simp] theorem readOperand_framebuf (o : Operand) (s : State) : (readOperand o s).2.framebuf = s.framebuf := by rw [readOperand_frame]
@[simp] theorem readOperand_presented (o : Operand) (s : State) : (readOperand o s).2.presented = s.presented := by rw [readOperand_frame]
@[simp] theorem readOperand_cpuLeft (o : Operand) (s : State) : (readOperand o s).2.cpuLeft = s.cpuLeft := by rw [readOperand_frame]
@[simp] theorem readOperand_compositorLeft (o : Operand) (s : State) : (readOperand o s).2.compositorLeft = s.compositorLeft := by rw [readOperand_frame]

/-- R383: the vector's two bytes are storage. -/
theorem memRead16_irqVector (s : State) :
    memRead16 irqVector s = (word (memGet s.cpuMem 0xFFFE) (memGet s.cpuMem 0xFFFF), s) := by
  simp [memRead16, memRead_plain]
  rfl

/-- R382: trap entry, in one update. -/
theorem takeTrap_eq (resume : Word) (s : State) :
    takeTrap resume irqVector s =
      { s with
        cpuMem := (push (pushedStatus s.p) (pushWord resume s)).cpuMem
        sp := s.sp - 1 - 1 - 1
        p := withFlag .i true s.p
        pc := word (memGet (push (pushedStatus s.p) (pushWord resume s)).cpuMem 0xFFFE)
          (memGet (push (pushedStatus s.p) (pushWord resume s)).cpuMem 0xFFFF) } := by
  simp [takeTrap, memRead16_irqVector, push_eq, pushWord_eq]

/-- R385: trap return, in one update. -/
theorem returnFromTrap_eq (s : State) :
    returnFromTrap s =
      { s with
        sp := s.sp + 1 + 1 + 1
        p := loadedStatus (memGet s.cpuMem (stackAddr (s.sp + 1)).toNat)
        pc := word (memGet s.cpuMem (stackAddr (s.sp + 1 + 1)).toNat)
          (memGet s.cpuMem (stackAddr (s.sp + 1 + 1 + 1)).toNat) } := by
  simp [returnFromTrap, pull_eq, pullWord_eq]

@[simp] theorem lowByte_toNat (w : Word) : (lowByte w).toNat = w.toNat % 256 := by
  simp [lowByte, BitVec.extractLsb']

@[simp] theorem highByte_toNat (w : Word) : (highByte w).toNat = w.toNat / 256 := by
  have := w.isLt
  simp [highByte, BitVec.extractLsb', Nat.shiftRight_eq_div_pow]
  omega

@[simp] theorem word_bytes (w : Word) : word (lowByte w) (highByte w) = w := by
  apply BitVec.eq_of_toNat_eq
  rw [word_toNat, lowByte_toNat, highByte_toNat]
  omega

@[simp] theorem lowByte_word (lo hi : Byte) : lowByte (word lo hi) = lo := by
  apply BitVec.eq_of_toNat_eq
  have := lo.isLt
  rw [lowByte_toNat, word_toNat]
  omega

@[simp] theorem highByte_word (lo hi : Byte) : highByte (word lo hi) = hi := by
  apply BitVec.eq_of_toNat_eq
  have := lo.isLt
  rw [highByte_toNat, word_toNat]
  omega

end Sys2Proof.Machine
end

