-- ==== Sys2Proof/Laws/Decode.lean ====
section
/-! SUPPORT. What the decoder answers for an opcode byte of each format. -/

namespace Sys2Proof.Machine

theorem decode_f1 {op : Byte} {i : Instr} (h : formatOf op = some (.f1 i)) (rest : List Byte) :
    decode (op :: rest) = .instr i rest := by simp [decode, h]

theorem decode_f2 {op : Byte} {mk : Byte → Instr} (h : formatOf op = some (.f2 mk)) (b : Byte) (rest : List Byte) :
    decode (op :: b :: rest) = .instr (mk b) rest := by simp [decode, h]

theorem decode_f3 {op : Byte} {mk : Word → Instr} (h : formatOf op = some (.f3 mk)) (b1 b2 : Byte)
    (rest : List Byte) : decode (op :: b1 :: b2 :: rest) = .instr (mk (word b1 b2)) rest := by simp [decode, h]

/-- R106: the two bytes of a word, put together again by the decoder. -/
theorem decode_f3_wordBytes {op : Byte} {mk : Word → Instr} (h : formatOf op = some (.f3 mk)) (w : Word)
    (rest : List Byte) : decode (op :: (wordBytes w ++ rest)) = .instr (mk w) rest := by
  simp [decode, h, wordBytes]

end Sys2Proof.Machine
end

