-- ==== Sys2Proof/Laws/Invariant.lean ====
section
/-! SUPPORT. The shared operations keep the invariant: the CPU registers, the accesses, the stack. -/

namespace Sys2Proof.Machine

/-- The constant bits of a status byte. -/
theorem constant_bits_withFlag {f : Flag} (x : Bool) {p : Byte} (hb : f ≠ .b) (hu : f ≠ .u) :
    flagOf .b (withFlag f x p) = flagOf .b p ∧ flagOf .u (withFlag f x p) = flagOf .u p := by
  simp [flagOf_withFlag, Ne.symm hb, Ne.symm hu]

theorem constant_bits_withZN (v p : Byte) :
    flagOf .b (withZN v p) = flagOf .b p ∧ flagOf .u (withZN v p) = flagOf .u p := by
  simp [flagOf_withZN]

theorem constant_bits_loadedStatus (v : Byte) :
    flagOf .b (loadedStatus v) = false ∧ flagOf .u (loadedStatus v) = true := by
  simp [flagOf_loadedStatus]

/-- The CPU registers but P are free; P keeps its two constant bits. -/
theorem StateInv.registers {s : State} (h : StateInv s) (a x y sp p : Byte) (pc : Word) (left : Nat) (fault : Option CpuFault)
    (hb : flagOf .b p = false) (hu : flagOf .u p = true) :
    StateInv { s with a := a, x := x, y := y, sp := sp, p := p, pc := pc, cpuLeft := left, halted := fault } :=
  ⟨h.cpuMem_wf, h.ppuMem_wf, h.oam_wf, h.devices_empty, hb, hu, h.overflow_clear, h.vblank_phase, h.hit_phase,
    h.presented_frame⟩

theorem StateInv.advance {s : State} (h : StateInv s) (n : Word) : StateInv (advance n s) :=
  h.registers _ _ _ _ _ _ _ _ h.break_clear h.unused_set

theorem StateInv.memRead {s : State} (h : StateInv s) (a : Word) : StateInv (memRead a s).2 := by
  refine ⟨by simpa using h.cpuMem_wf, by simpa using h.ppuMem_wf, by simpa using h.oam_wf, by simpa using h.devices_empty,
    by simpa using h.break_clear, by simpa using h.unused_set, by simpa using h.overflow_clear, ?_,
    by simpa using h.hit_phase, by simpa using h.presented_frame⟩
  intro hv
  rw [memRead_phase]
  apply h.vblank_phase
  revert hv
  unfold Machine.memRead
  split
  · exact id
  · unfold readPpuReg; split <;> simp
  · unfold readController reloadShift; split <;> simp

theorem ppuIndex_lt (a : Nat) : ppuIndex a < Config.ppuMemBytes := Nat.mod_lt _ (by decide)

theorem deviceCellsEmpty_memSet {m : Memory} {a : Word} (v : Byte) (h : deviceCellsEmpty m = true)
    (ha : classify a = .plain) : deviceCellsEmpty (memSet m a.toNat v) = true := by
  simp only [deviceCellsEmpty, List.all_eq_true, beq_iff_eq] at *
  intro c hc
  rcases mem_memSet hc with hc | rfl
  · exact h c hc
  · simpa using ha

theorem StateInv.memWrite {s : State} (h : StateInv s) (a : Word) (v : Byte) : StateInv (memWrite a v s) := by
  unfold Machine.memWrite
  split
  · rename_i hc
    split
    · exact h
    · exact ⟨memSet_wf v h.cpuMem_wf a.isLt, h.ppuMem_wf, h.oam_wf, deviceCellsEmpty_memSet v h.devices_empty hc,
        h.break_clear, h.unused_set, h.overflow_clear, h.vblank_phase, h.hit_phase, h.presented_frame⟩
  · unfold writePpuReg
    split
    · exact ⟨h.1, h.2, h.3, h.4, h.5, h.6, h.7, h.8, h.9, h.10⟩
    · exact ⟨h.1, h.2, h.3, h.4, h.5, h.6, h.7, h.8, h.9, h.10⟩
    · exact h
    · exact ⟨h.1, h.2, h.3, h.4, h.5, h.6, h.7, h.8, h.9, h.10⟩
    · exact ⟨h.1, h.2, memSet_wf v h.oam_wf s.oamaddr.isLt, h.4, h.5, h.6, h.7, h.8, h.9, h.10⟩
    · split <;> exact ⟨h.1, h.2, h.3, h.4, h.5, h.6, h.7, h.8, h.9, h.10⟩
    · split <;> exact ⟨h.1, h.2, h.3, h.4, h.5, h.6, h.7, h.8, h.9, h.10⟩
    · exact ⟨h.1, memSet_wf v h.ppuMem_wf (ppuIndex_lt _), h.3, h.4, h.5, h.6, h.7, h.8, h.9, h.10⟩
  · unfold writeController reloadShift
    split <;> exact ⟨h.1, h.2, h.3, h.4, h.5, h.6, h.7, h.8, h.9, h.10⟩

theorem StateInv.push {s : State} (h : StateInv s) (v : Byte) : StateInv (push v s) :=
  have h' := h.memWrite (stackAddr s.sp) v
  h'.registers _ _ _ _ _ _ _ _ h'.break_clear h'.unused_set

theorem StateInv.pull {s : State} (h : StateInv s) : StateInv (pull s).2 :=
  (h.registers s.a s.x s.y (s.sp + 1) s.p s.pc s.cpuLeft s.halted h.break_clear h.unused_set).memRead _

theorem StateInv.readOperand {s : State} (h : StateInv s) (o : Operand) : StateInv (readOperand o s).2 := by
  cases o <;> simp only [Machine.readOperand, effAddr_state] <;> first | exact h | exact h.memRead _

/-- Bits 4 and 5 of `q` are those of `p` (R33, R34). -/
def SameConstantBits (p q : Byte) : Prop := flagOf .b q = flagOf .b p ∧ flagOf .u q = flagOf .u p

theorem SameConstantBits.refl (p : Byte) : SameConstantBits p p := ⟨rfl, rfl⟩

/-- The CPU registers may take any value as long as P keeps its constant bits. -/
theorem StateInv.setRegisters {s : State} (h : StateInv s) (a x y sp p : Byte) (pc : Word) (left : Nat)
    (fault : Option CpuFault) (hk : SameConstantBits s.p p) :
    StateInv { s with a := a, x := x, y := y, sp := sp, p := p, pc := pc, cpuLeft := left, halted := fault } :=
  h.registers _ _ _ _ _ _ _ _ (hk.1.trans h.break_clear) (hk.2.trans h.unused_set)

/-! No flag computation touches the constant bits. -/

theorem constant_bits_adcByte (a m p : Byte) : SameConstantBits p (adcByte a m p).2 := by
  constructor <;> simp [adcByte, flagOf_withZN, flagOf_withFlag]

theorem constant_bits_sbcByte (a m p : Byte) : SameConstantBits p (sbcByte a m p).2 := constant_bits_adcByte _ _ _

theorem constant_bits_andByte (a m p : Byte) : SameConstantBits p (andByte a m p).2 := constant_bits_withZN _ _

theorem constant_bits_oraByte (a m p : Byte) : SameConstantBits p (oraByte a m p).2 := constant_bits_withZN _ _

theorem constant_bits_eorByte (a m p : Byte) : SameConstantBits p (eorByte a m p).2 := constant_bits_withZN _ _

theorem constant_bits_aslByte (v p : Byte) : SameConstantBits p (aslByte v p).2 := by
  constructor <;> simp [aslByte, flagOf_withZN, flagOf_withFlag]

theorem constant_bits_lsrByte (v p : Byte) : SameConstantBits p (lsrByte v p).2 := by
  constructor <;> simp [lsrByte, flagOf_withZN, flagOf_withFlag]

theorem constant_bits_rolByte (v p : Byte) : SameConstantBits p (rolByte v p).2 := by
  constructor <;> simp [rolByte, flagOf_withZN, flagOf_withFlag]

theorem constant_bits_rorByte (v p : Byte) : SameConstantBits p (rorByte v p).2 := by
  constructor <;> simp [rorByte, flagOf_withZN, flagOf_withFlag]

theorem constant_bits_incByte (v p : Byte) : SameConstantBits p (incByte v p).2 := constant_bits_withZN _ _

theorem constant_bits_decByte (v p : Byte) : SameConstantBits p (decByte v p).2 := constant_bits_withZN _ _

theorem constant_bits_compareStatus (r m p : Byte) : SameConstantBits p (compareStatus r m p) := by
  constructor <;> simp [compareStatus, flagOf_withZN, flagOf_withFlag]

theorem constant_bits_bitStatus (a m p : Byte) : SameConstantBits p (bitStatus a m p) := by
  constructor <;> simp [bitStatus, flagOf_withFlag]

/-! The shapes of Machine/Operands.lean. -/

theorem StateInv.withOperand {s : State} (h : StateInv s) (o : Operand) {f : Byte → State → State}
    (hf : ∀ m t, StateInv t → StateInv (f m t)) : StateInv (withOperand o f s) :=
  (hf _ _ (h.readOperand o)).advance _

theorem StateInv.storeOperand {s : State} (h : StateInv s) (o : Operand) (v : Byte) :
    StateInv (storeOperand o v s) := by
  simp only [Machine.storeOperand, effAddr_state]
  exact (h.memWrite _ _).advance _

theorem StateInv.modifyOperand {s : State} (h : StateInv s) (o : Operand) (f : Byte → Byte → Byte × Byte)
    (hf : ∀ v p, SameConstantBits p (f v p).2) : StateInv (modifyOperand o f s) := by
  simp only [Machine.modifyOperand, effAddr_state]
  refine StateInv.advance ?_ _
  have hw := (h.memRead (effAddr o s).1).memWrite (effAddr o s).1
    (f (Machine.memRead (effAddr o s).1 s).1 (Machine.memRead (effAddr o s).1 s).2.p).1
  exact hw.setRegisters _ _ _ _ _ _ _ _ (by rw [memWrite_p]; exact hf _ _)

/-! The trap and its return. -/

theorem StateInv.setP {s : State} (h : StateInv s) (p : Byte) (hk : SameConstantBits s.p p) :
    StateInv { s with p := p } :=
  h.setRegisters s.a s.x s.y s.sp p s.pc s.cpuLeft s.halted hk

theorem StateInv.takeTrap {s : State} (h : StateInv s) (resume vector : Word) :
    StateInv (takeTrap resume vector s) := by
  have hp := ((h.push (highByte resume)).push (lowByte resume)).push (pushedStatus s.p)
  have hi := hp.setP _ (constant_bits_withFlag (f := .i) true (by decide) (by decide))
  exact ((hi.memRead vector).memRead (vector + 1)).setRegisters _ _ _ _ _ _ _ _ (.refl _)

theorem StateInv.returnFromTrap {s : State} (h : StateInv s) : StateInv (returnFromTrap s) := by
  rw [returnFromTrap_eq]
  exact h.registers _ _ _ _ _ _ _ _ (constant_bits_loadedStatus _).1 (constant_bits_loadedStatus _).2

end Sys2Proof.Machine
end

