-- ==== Sys2Proof/Laws/Exec.lean ====
section
/-! SUPPORT. What an instruction can do, said once: every next state of `exec` has one of eight shapes. -/

namespace Sys2Proof.Machine

/-- The shapes of an instruction's next state. -/
inductive ExecShape (s : State) : State → Prop where
  /-- CPU registers alone; P keeps its constant bits, or takes them from a pulled byte. -/
  | registers (a x y sp p : Byte) (pc : Word)
      (h : SameConstantBits s.p p ∨ ∃ v, p = loadedStatus v) :
      ExecShape s { s with a := a, x := x, y := y, sp := sp, p := p, pc := pc }
  /-- One read of an operand, then CPU registers. -/
  | operand (o : Operand) (a x y p : Byte) (pc : Word) (h : SameConstantBits (readOperand o s).2.p p) :
      ExecShape s { (readOperand o s).2 with a := a, x := x, y := y, p := p, pc := pc }
  /-- A store. -/
  | store (o : Operand) (v : Byte) : ExecShape s (storeOperand o v s)
  /-- A read-modify-write. -/
  | modify (o : Operand) (f : Byte → Byte → Byte × Byte) (h : ∀ v p, SameConstantBits p (f v p).2) :
      ExecShape s (modifyOperand o f s)
  /-- JMP indirect. -/
  | jumpIndirect (ptr : Word) : ExecShape s (jumpIndirect ptr s)
  /-- PHA and PHP. -/
  | push (v : Byte) (pc : Word) : ExecShape s { push v s with pc := pc }
  /-- JSR. -/
  | pushWord (w pc : Word) : ExecShape s { pushWord w s with pc := pc }
  /-- BRK. -/
  | trap (resume : Word) : ExecShape s (takeTrap resume irqVector s)

/-- Every next state of an instruction has one of the shapes. -/
theorem exec_shape {i : Instr} {s t : State} (h : exec i s = .next t) : ExecShape s t := by
  cases i <;> obtain rfl := Host.Outcome.next.inj h
  case adcImm => exact .operand _ _ _ _ _ _ (constant_bits_adcByte _ _ _)
  case adcZp => exact .operand _ _ _ _ _ _ (constant_bits_adcByte _ _ _)
  case adcZpx => exact .operand _ _ _ _ _ _ (constant_bits_adcByte _ _ _)
  case adcAbs => exact .operand _ _ _ _ _ _ (constant_bits_adcByte _ _ _)
  case adcAbsx => exact .operand _ _ _ _ _ _ (constant_bits_adcByte _ _ _)
  case adcAbsy => exact .operand _ _ _ _ _ _ (constant_bits_adcByte _ _ _)
  case adcIndx => exact .operand _ _ _ _ _ _ (constant_bits_adcByte _ _ _)
  case adcIndy => exact .operand _ _ _ _ _ _ (constant_bits_adcByte _ _ _)
  case sbcImm => exact .operand _ _ _ _ _ _ (constant_bits_sbcByte _ _ _)
  case sbcZp => exact .operand _ _ _ _ _ _ (constant_bits_sbcByte _ _ _)
  case sbcZpx => exact .operand _ _ _ _ _ _ (constant_bits_sbcByte _ _ _)
  case sbcAbs => exact .operand _ _ _ _ _ _ (constant_bits_sbcByte _ _ _)
  case sbcAbsx => exact .operand _ _ _ _ _ _ (constant_bits_sbcByte _ _ _)
  case sbcAbsy => exact .operand _ _ _ _ _ _ (constant_bits_sbcByte _ _ _)
  case sbcIndx => exact .operand _ _ _ _ _ _ (constant_bits_sbcByte _ _ _)
  case sbcIndy => exact .operand _ _ _ _ _ _ (constant_bits_sbcByte _ _ _)
  case andImm => exact .operand _ _ _ _ _ _ (constant_bits_andByte _ _ _)
  case andZp => exact .operand _ _ _ _ _ _ (constant_bits_andByte _ _ _)
  case andZpx => exact .operand _ _ _ _ _ _ (constant_bits_andByte _ _ _)
  case andAbs => exact .operand _ _ _ _ _ _ (constant_bits_andByte _ _ _)
  case andAbsx => exact .operand _ _ _ _ _ _ (constant_bits_andByte _ _ _)
  case andAbsy => exact .operand _ _ _ _ _ _ (constant_bits_andByte _ _ _)
  case andIndx => exact .operand _ _ _ _ _ _ (constant_bits_andByte _ _ _)
  case andIndy => exact .operand _ _ _ _ _ _ (constant_bits_andByte _ _ _)
  case oraImm => exact .operand _ _ _ _ _ _ (constant_bits_oraByte _ _ _)
  case oraZp => exact .operand _ _ _ _ _ _ (constant_bits_oraByte _ _ _)
  case oraZpx => exact .operand _ _ _ _ _ _ (constant_bits_oraByte _ _ _)
  case oraAbs => exact .operand _ _ _ _ _ _ (constant_bits_oraByte _ _ _)
  case oraAbsx => exact .operand _ _ _ _ _ _ (constant_bits_oraByte _ _ _)
  case oraAbsy => exact .operand _ _ _ _ _ _ (constant_bits_oraByte _ _ _)
  case oraIndx => exact .operand _ _ _ _ _ _ (constant_bits_oraByte _ _ _)
  case oraIndy => exact .operand _ _ _ _ _ _ (constant_bits_oraByte _ _ _)
  case eorImm => exact .operand _ _ _ _ _ _ (constant_bits_eorByte _ _ _)
  case eorZp => exact .operand _ _ _ _ _ _ (constant_bits_eorByte _ _ _)
  case eorZpx => exact .operand _ _ _ _ _ _ (constant_bits_eorByte _ _ _)
  case eorAbs => exact .operand _ _ _ _ _ _ (constant_bits_eorByte _ _ _)
  case eorAbsx => exact .operand _ _ _ _ _ _ (constant_bits_eorByte _ _ _)
  case eorAbsy => exact .operand _ _ _ _ _ _ (constant_bits_eorByte _ _ _)
  case eorIndx => exact .operand _ _ _ _ _ _ (constant_bits_eorByte _ _ _)
  case eorIndy => exact .operand _ _ _ _ _ _ (constant_bits_eorByte _ _ _)
  case aslAcc => exact .registers _ _ _ _ _ _ (.inl (constant_bits_aslByte _ _))
  case aslZp => exact .modify _ _ constant_bits_aslByte
  case aslZpx => exact .modify _ _ constant_bits_aslByte
  case aslAbs => exact .modify _ _ constant_bits_aslByte
  case aslAbsx => exact .modify _ _ constant_bits_aslByte
  case lsrAcc => exact .registers _ _ _ _ _ _ (.inl (constant_bits_lsrByte _ _))
  case lsrZp => exact .modify _ _ constant_bits_lsrByte
  case lsrZpx => exact .modify _ _ constant_bits_lsrByte
  case lsrAbs => exact .modify _ _ constant_bits_lsrByte
  case lsrAbsx => exact .modify _ _ constant_bits_lsrByte
  case rolAcc => exact .registers _ _ _ _ _ _ (.inl (constant_bits_rolByte _ _))
  case rolZp => exact .modify _ _ constant_bits_rolByte
  case rolZpx => exact .modify _ _ constant_bits_rolByte
  case rolAbs => exact .modify _ _ constant_bits_rolByte
  case rolAbsx => exact .modify _ _ constant_bits_rolByte
  case rorAcc => exact .registers _ _ _ _ _ _ (.inl (constant_bits_rorByte _ _))
  case rorZp => exact .modify _ _ constant_bits_rorByte
  case rorZpx => exact .modify _ _ constant_bits_rorByte
  case rorAbs => exact .modify _ _ constant_bits_rorByte
  case rorAbsx => exact .modify _ _ constant_bits_rorByte
  case bcc => exact .registers _ _ _ _ _ _ (.inl (.refl _))
  case bcs => exact .registers _ _ _ _ _ _ (.inl (.refl _))
  case beq => exact .registers _ _ _ _ _ _ (.inl (.refl _))
  case bne => exact .registers _ _ _ _ _ _ (.inl (.refl _))
  case bvc => exact .registers _ _ _ _ _ _ (.inl (.refl _))
  case bvs => exact .registers _ _ _ _ _ _ (.inl (.refl _))
  case bpl => exact .registers _ _ _ _ _ _ (.inl (.refl _))
  case bmi => exact .registers _ _ _ _ _ _ (.inl (.refl _))
  case jmpAbs => exact .registers _ _ _ _ _ _ (.inl (.refl _))
  case jmpInd => exact .jumpIndirect _
  case jsr => exact .pushWord _ _
  case rts => rw [returnSubroutine, pullWord_eq]; exact .registers _ _ _ _ _ _ (.inl (.refl _))
  case brk => exact .trap _
  case rti => rw [returnFromTrap_eq]; exact .registers _ _ _ _ _ _ (.inr ⟨_, rfl⟩)
  case cmpImm => exact .operand _ _ _ _ _ _ (constant_bits_compareStatus _ _ _)
  case cmpZp => exact .operand _ _ _ _ _ _ (constant_bits_compareStatus _ _ _)
  case cmpZpx => exact .operand _ _ _ _ _ _ (constant_bits_compareStatus _ _ _)
  case cmpAbs => exact .operand _ _ _ _ _ _ (constant_bits_compareStatus _ _ _)
  case cmpAbsx => exact .operand _ _ _ _ _ _ (constant_bits_compareStatus _ _ _)
  case cmpAbsy => exact .operand _ _ _ _ _ _ (constant_bits_compareStatus _ _ _)
  case cmpIndx => exact .operand _ _ _ _ _ _ (constant_bits_compareStatus _ _ _)
  case cmpIndy => exact .operand _ _ _ _ _ _ (constant_bits_compareStatus _ _ _)
  case cpxImm => exact .operand _ _ _ _ _ _ (constant_bits_compareStatus _ _ _)
  case cpxZp => exact .operand _ _ _ _ _ _ (constant_bits_compareStatus _ _ _)
  case cpxAbs => exact .operand _ _ _ _ _ _ (constant_bits_compareStatus _ _ _)
  case cpyImm => exact .operand _ _ _ _ _ _ (constant_bits_compareStatus _ _ _)
  case cpyZp => exact .operand _ _ _ _ _ _ (constant_bits_compareStatus _ _ _)
  case cpyAbs => exact .operand _ _ _ _ _ _ (constant_bits_compareStatus _ _ _)
  case incZp => exact .modify _ _ constant_bits_incByte
  case incZpx => exact .modify _ _ constant_bits_incByte
  case incAbs => exact .modify _ _ constant_bits_incByte
  case incAbsx => exact .modify _ _ constant_bits_incByte
  case decZp => exact .modify _ _ constant_bits_decByte
  case decZpx => exact .modify _ _ constant_bits_decByte
  case decAbs => exact .modify _ _ constant_bits_decByte
  case decAbsx => exact .modify _ _ constant_bits_decByte
  case inx => exact .registers _ _ _ _ _ _ (.inl (constant_bits_incByte _ _))
  case dex => exact .registers _ _ _ _ _ _ (.inl (constant_bits_decByte _ _))
  case iny => exact .registers _ _ _ _ _ _ (.inl (constant_bits_incByte _ _))
  case dey => exact .registers _ _ _ _ _ _ (.inl (constant_bits_decByte _ _))
  case tax => exact .registers _ _ _ _ _ _ (.inl (constant_bits_withZN _ _))
  case tay => exact .registers _ _ _ _ _ _ (.inl (constant_bits_withZN _ _))
  case txa => exact .registers _ _ _ _ _ _ (.inl (constant_bits_withZN _ _))
  case tya => exact .registers _ _ _ _ _ _ (.inl (constant_bits_withZN _ _))
  case tsx => exact .registers _ _ _ _ _ _ (.inl (constant_bits_withZN _ _))
  case txs => exact .registers _ _ _ _ _ _ (.inl (.refl _))
  case pha => exact .push _ _
  case pla => rw [pullA, pull_eq]; exact .registers _ _ _ _ _ _ (.inl (constant_bits_withZN _ _))
  case php => exact .push _ _
  case plp => rw [pullStatus, pull_eq]; exact .registers _ _ _ _ _ _ (.inr ⟨_, rfl⟩)
  case clc => exact .registers _ _ _ _ _ _ (.inl (constant_bits_withFlag _ (by decide) (by decide)))
  case sec => exact .registers _ _ _ _ _ _ (.inl (constant_bits_withFlag _ (by decide) (by decide)))
  case cli => exact .registers _ _ _ _ _ _ (.inl (constant_bits_withFlag _ (by decide) (by decide)))
  case sei => exact .registers _ _ _ _ _ _ (.inl (constant_bits_withFlag _ (by decide) (by decide)))
  case cld => exact .registers _ _ _ _ _ _ (.inl (constant_bits_withFlag _ (by decide) (by decide)))
  case sed => exact .registers _ _ _ _ _ _ (.inl (constant_bits_withFlag _ (by decide) (by decide)))
  case clv => exact .registers _ _ _ _ _ _ (.inl (constant_bits_withFlag _ (by decide) (by decide)))
  case nop => exact .registers _ _ _ _ _ _ (.inl (.refl _))
  case ldaImm => exact .operand _ _ _ _ _ _ (constant_bits_withZN _ _)
  case ldaZp => exact .operand _ _ _ _ _ _ (constant_bits_withZN _ _)
  case ldaZpx => exact .operand _ _ _ _ _ _ (constant_bits_withZN _ _)
  case ldaAbs => exact .operand _ _ _ _ _ _ (constant_bits_withZN _ _)
  case ldaAbsx => exact .operand _ _ _ _ _ _ (constant_bits_withZN _ _)
  case ldaAbsy => exact .operand _ _ _ _ _ _ (constant_bits_withZN _ _)
  case ldaIndx => exact .operand _ _ _ _ _ _ (constant_bits_withZN _ _)
  case ldaIndy => exact .operand _ _ _ _ _ _ (constant_bits_withZN _ _)
  case ldxImm => exact .operand _ _ _ _ _ _ (constant_bits_withZN _ _)
  case ldxZp => exact .operand _ _ _ _ _ _ (constant_bits_withZN _ _)
  case ldxZpy => exact .operand _ _ _ _ _ _ (constant_bits_withZN _ _)
  case ldxAbs => exact .operand _ _ _ _ _ _ (constant_bits_withZN _ _)
  case ldxAbsy => exact .operand _ _ _ _ _ _ (constant_bits_withZN _ _)
  case ldyImm => exact .operand _ _ _ _ _ _ (constant_bits_withZN _ _)
  case ldyZp => exact .operand _ _ _ _ _ _ (constant_bits_withZN _ _)
  case ldyZpx => exact .operand _ _ _ _ _ _ (constant_bits_withZN _ _)
  case ldyAbs => exact .operand _ _ _ _ _ _ (constant_bits_withZN _ _)
  case ldyAbsx => exact .operand _ _ _ _ _ _ (constant_bits_withZN _ _)
  case staZp => exact .store _ _
  case staZpx => exact .store _ _
  case staAbs => exact .store _ _
  case staAbsx => exact .store _ _
  case staAbsy => exact .store _ _
  case staIndx => exact .store _ _
  case staIndy => exact .store _ _
  case stxZp => exact .store _ _
  case stxZpy => exact .store _ _
  case stxAbs => exact .store _ _
  case styZp => exact .store _ _
  case styZpx => exact .store _ _
  case styAbs => exact .store _ _
  case bitZp => exact .operand _ _ _ _ _ _ (constant_bits_bitStatus _ _ _)
  case bitAbs => exact .operand _ _ _ _ _ _ (constant_bits_bitStatus _ _ _)

end Sys2Proof.Machine
end

