-- ==== Sys2Proof/Laws/Step.lean ====
section
/-! SUPPORT. What a step can be, by the agent that moves, and all that a compositor step and a fetch can change. -/

namespace Sys2Proof.Machine

/-- R39, R372: a halted CPU leaves every step to the compositor. -/
theorem step_of_halted {s : State} {f : CpuFault} (h : s.halted = some f) : step s = .next (compositorStep s) := by
  simp [step, nextAgent, h]

/-- R354: the compositor moves when the CPU's budget is spent. -/
theorem step_of_spent {s : State} (h : s.cpuLeft = 0) : step s = .next (compositorStep s) := by
  cases hh : s.halted <;> simp [step, nextAgent, h, hh]

/-- R100: the CPU moves while its budget lasts. -/
theorem step_of_budget {s : State} {left : Nat} (hh : s.halted = none) (hl : s.cpuLeft = left + 1) :
    step s = cpuStep { s with cpuLeft := left } := by
  simp [step, nextAgent, hh, hl, spendCpuStep]

/-- R350, R352, R353: no step of the compositor's cycle touches the schedule's numbers or the draws. -/
theorem compositorCycle_schedule (s : State) :
    (compositorCycle s).cpuLeft = s.cpuLeft ∧ (compositorCycle s).compositorLeft = s.compositorLeft ∧
      (compositorCycle s).draws = s.draws := by
  unfold compositorCycle
  split <;> exact ⟨rfl, rfl, rfl⟩

/-- R421: the CPU steps after a compositor step are at least the guaranteed ones. -/
theorem guaranteed_le_cpuBudget (s : State) : guaranteedSteps s.phase ≤ cpuBudget s := by
  unfold cpuBudget
  dsimp only
  split <;> omega

/-- R356: where the CPU is due it has a step. -/
theorem cpuBudget_pos {s : State} (h : s.compositorLeft = 0) : 0 < cpuBudget s := by
  simp only [cpuBudget, h, if_true]
  omega

/-- R356: until then the bound falls by one with each compositor step. -/
theorem compositorBudget_of_pos {s : State} {n : Nat} (h : s.compositorLeft = n + 1) : compositorBudget s = n := by
  simp [compositorBudget, h]

/-- R350 to R354: all that a compositor step changes. -/
theorem compositorStep_frame (s : State) :
    compositorStep s = { s with
      vblank := (compositorStep s).vblank, spr0hit := (compositorStep s).spr0hit,
      framebuf := (compositorStep s).framebuf, phase := (compositorStep s).phase,
      presented := (compositorStep s).presented, cpuLeft := (compositorStep s).cpuLeft,
      compositorLeft := (compositorStep s).compositorLeft, draws := s.draws + 1 } := by
  unfold compositorStep compositorCycle
  split <;> rfl

/-- R100, R145, R381: the state in which an instruction runs, or an undefined byte is found, is the state after the
reads of one, two or three bytes. -/
theorem fetch_state (s : State) :
    let op := memRead s.pc s
    let b1 := memRead (s.pc + 1) op.2
    let b2 := memRead (s.pc + 2) b1.2
    (∃ i, fetch s = .instr i op.2 ∨ fetch s = .instr i b1.2 ∨ fetch s = .instr i b2.2) ∨
      fetch s = .undefined op.1 op.2 := by
  intro op b1 b2
  unfold fetch
  dsimp only
  split
  · exact .inr rfl
  · exact .inl ⟨_, .inl rfl⟩
  · exact .inl ⟨_, .inr (.inl rfl)⟩
  · exact .inl ⟨_, .inr (.inr rfl)⟩

end Sys2Proof.Machine
end

