-- ==== Sys2Proof/Tests/Slice0.lean ====
section
/-! SUPPORT. Tests: the spec's own worked vectors (95_test_vectors.md), each one step on a small state. -/

namespace Sys2Proof.Tests

open Sys2Proof.Machine

/-- The start state of 95_test_vectors.md part 2: reset, PC at 0x0200; and the CPU to move. -/
def start : State := { State.reset with pc := 0x0200, cpuLeft := 1 }

/-- The given bytes of CPU memory stored one by one. -/
def withBytes : List (Nat × Byte) → State → State
  | [], s => s
  | (a, v) :: r, s => withBytes r { s with cpuMem := memSet s.cpuMem a v }

/-- One step from `s` with `code` at PC (over the listed bytes) ends in a state that passes `ok`. -/
def ends (code : List Byte) (bytes : List (Nat × Byte)) (s : State) (ok : State → Bool) : Bool :=
  let t := withBytes bytes s
  match step { t with cpuMem := placeBytes t.cpuMem t.pc code } with
  | .next u => ok u
  | _ => false

/-- A byte of CPU memory. -/
def byteAt (s : State) (a : Nat) : Byte := memGet s.cpuMem a

/-- Vector A1: `LDA $FF,X`. -/
theorem test_A1_ldaZpx :
    (ends [0xB5, 0xFF] [(0x000F, 0x5A), (0x010F, 0xEE)] { start with x := 0x10 } fun t =>
      (t.a == 0x5A && t.pc == 0x0202)) = true := by
  decide

/-- Vector A2: `LDX $F0,Y`. -/
theorem test_A2_ldxZpy :
    (ends [0xB6, 0xF0] [(0x0010, 0x77)] { start with y := 0x20 } fun t =>
      (t.x == 0x77 && t.pc == 0x0202)) = true := by
  decide

/-- Vector A3: `LDA $12F0,X`. -/
theorem test_A3_ldaAbsx :
    (ends [0xBD, 0xF0, 0x12] [(0x1310, 0x42)] { start with x := 0x20 } fun t =>
      (t.a == 0x42 && t.pc == 0x0203)) = true := by
  decide

/-- Vector A4: `LDA $FFF0,Y`. -/
theorem test_A4_ldaAbsy :
    (ends [0xB9, 0xF0, 0xFF] [(0x0010, 0x99)] { start with y := 0x20 } fun t =>
      (t.a == 0x99 && t.p == 0xA4 && t.pc == 0x0203)) = true := by
  decide

/-- Vector A5: `LDA ($F0,X)`. -/
theorem test_A5_ldaIndx :
    (ends [0xA1, 0xF0] [(0x00FF, 0x34), (0x0000, 0x12), (0x0100, 0x66), (0x1234, 0xAB), (0x6634, 0xCD)] { start with x := 0x0F } fun t =>
      (t.a == 0xAB && t.p == 0xA4 && t.pc == 0x0202)) = true := by
  decide

/-- Vector A6: `LDA ($80,X)`. -/
theorem test_A6_ldaIndx :
    (ends [0xA1, 0x80] [(0x0010, 0x00), (0x0011, 0x03), (0x0300, 0x3C)] { start with x := 0x90 } fun t =>
      (t.a == 0x3C && t.pc == 0x0202)) = true := by
  decide

/-- Vector A7: `LDA ($FF),Y`. -/
theorem test_A7_ldaIndy :
    (ends [0xB1, 0xFF] [(0x00FF, 0xF8), (0x0000, 0x03), (0x0100, 0x07), (0x0408, 0x5E), (0x0808, 0x11)] { start with y := 0x10 } fun t =>
      (t.a == 0x5E && t.pc == 0x0202)) = true := by
  decide

/-- Vector A8: `JMP ($0280)`. -/
theorem test_A8_jmpInd :
    (ends [0x6C, 0x80, 0x02] [(0x0280, 0x78), (0x0281, 0x56)] start fun t =>
      (t.pc == 0x5678)) = true := by
  decide

/-- Vector A10: `JMP ($04FF)`. -/
theorem test_A10_jmpInd :
    (ends [0x6C, 0xFF, 0x04] [(0x04FF, 0x80), (0x0400, 0x20), (0x0500, 0x77)] start fun t =>
      (t.pc == 0x2080)) = true := by
  decide

/-- Vector A12: `LDA $10`. -/
theorem test_A12_ldaZp :
    (ends [0xA5, 0x10] [(0x0010, 0x80)] start fun t =>
      (t.a == 0x80 && t.p == 0xA4 && t.pc == 0x0202)) = true := by
  decide

/-- Vector B1: `ADC #$50`. -/
theorem test_B1_adcImm :
    (ends [0x69, 0x50] [] { start with a := 0x50 } fun t =>
      (t.a == 0xA0 && t.p == 0xE4 && t.pc == 0x0202)) = true := by
  decide

/-- Vector B4: `ADC #$80`. -/
theorem test_B4_adcImm :
    (ends [0x69, 0x80] [] { start with a := 0x80 } fun t =>
      (t.a == 0x00 && t.p == 0x67 && t.pc == 0x0202)) = true := by
  decide

/-- Vector B9: `SBC #$01`. -/
theorem test_B9_sbcImm :
    (ends [0xE9, 0x01] [] { start with a := 0x80, p := 0x25 } fun t =>
      (t.a == 0x7F && t.p == 0x65 && t.pc == 0x0202)) = true := by
  decide

/-- Vector B11: `SBC #$B0`. -/
theorem test_B11_sbcImm :
    (ends [0xE9, 0xB0] [] { start with a := 0x50, p := 0x25 } fun t =>
      (t.a == 0xA0 && t.p == 0xE4 && t.pc == 0x0202)) = true := by
  decide

/-- Vector B14: `SBC $10`. -/
theorem test_B14_sbcZp :
    (ends [0xE5, 0x10] [(0x0010, 0x3F)] { start with a := 0x40, p := 0x25 } fun t =>
      (t.a == 0x01 && t.pc == 0x0202)) = true := by
  decide

/-- Vector B15: `AND #$0F`. -/
theorem test_B15_andImm :
    (ends [0x29, 0x0F] [] { start with a := 0xF0 } fun t =>
      (t.a == 0x00 && t.p == 0x26 && t.pc == 0x0202)) = true := by
  decide

/-- Vector B16: `AND #$80`. -/
theorem test_B16_andImm :
    (ends [0x29, 0x80] [] { start with a := 0xFF, p := 0x65 } fun t =>
      (t.a == 0x80 && t.p == 0xE5 && t.pc == 0x0202)) = true := by
  decide

/-- Vector B17: `ORA #$00`. -/
theorem test_B17_oraImm :
    (ends [0x09, 0x00] [] { start with a := 0x00 } fun t =>
      (t.p == 0x26 && t.pc == 0x0202)) = true := by
  decide

/-- Vector B18: `ORA $10,X`. -/
theorem test_B18_oraZpx :
    (ends [0x15, 0x10] [(0x0011, 0x80)] { start with a := 0x01, x := 0x01 } fun t =>
      (t.a == 0x81 && t.p == 0xA4 && t.pc == 0x0202)) = true := by
  decide

/-- Vector B19: `EOR #$FF`. -/
theorem test_B19_eorImm :
    (ends [0x49, 0xFF] [] { start with a := 0xAA } fun t =>
      (t.a == 0x55 && t.pc == 0x0202)) = true := by
  decide

/-- Vector B20: `EOR #$5A`. -/
theorem test_B20_eorImm :
    (ends [0x49, 0x5A] [] { start with a := 0x5A } fun t =>
      (t.a == 0x00 && t.p == 0x26 && t.pc == 0x0202)) = true := by
  decide

/-- Vector C1: `ASL A`. -/
theorem test_C1_aslAcc :
    (ends [0x0A] [] { start with a := 0x80 } fun t =>
      (t.a == 0x00 && t.p == 0x27 && t.pc == 0x0201)) = true := by
  decide

/-- Vector C2: `ASL A`. -/
theorem test_C2_aslAcc :
    (ends [0x0A] [] { start with a := 0x41, p := 0x25 } fun t =>
      (t.a == 0x82 && t.p == 0xA4 && t.pc == 0x0201)) = true := by
  decide

/-- Vector C3: `LSR A`. -/
theorem test_C3_lsrAcc :
    (ends [0x4A] [] { start with a := 0x01 } fun t =>
      (t.a == 0x00 && t.p == 0x27 && t.pc == 0x0201)) = true := by
  decide

/-- Vector C4: `LSR A`. -/
theorem test_C4_lsrAcc :
    (ends [0x4A] [] { start with a := 0xFF, p := 0xA4 } fun t =>
      (t.a == 0x7F && t.p == 0x25 && t.pc == 0x0201)) = true := by
  decide

/-- Vector C5: `ROL A`. -/
theorem test_C5_rolAcc :
    (ends [0x2A] [] { start with a := 0x80, p := 0x25 } fun t =>
      (t.a == 0x01 && t.pc == 0x0201)) = true := by
  decide

/-- Vector C6: `ROL A`. -/
theorem test_C6_rolAcc :
    (ends [0x2A] [] { start with a := 0x80, p := 0x24 } fun t =>
      (t.a == 0x00 && t.p == 0x27 && t.pc == 0x0201)) = true := by
  decide

/-- Vector C7: `ROR A`. -/
theorem test_C7_rorAcc :
    (ends [0x6A] [] { start with a := 0x01, p := 0x25 } fun t =>
      (t.a == 0x80 && t.p == 0xA5 && t.pc == 0x0201)) = true := by
  decide

/-- Vector C8: `ROR A`. -/
theorem test_C8_rorAcc :
    (ends [0x6A] [] { start with a := 0x00, p := 0x24 } fun t =>
      (t.p == 0x26 && t.pc == 0x0201)) = true := by
  decide

/-- Vector C9: `ASL $10`. -/
theorem test_C9_aslZp :
    (ends [0x06, 0x10] [(0x0010, 0xC0)] { start with a := 0x33 } fun t =>
      (t.p == 0xA5 && byteAt t 0x0010 == 0x80 && t.pc == 0x0202)) = true := by
  decide

/-- Vector C10: `ROR $0300,X`. -/
theorem test_C10_rorAbsx :
    (ends [0x7E, 0x00, 0x03] [(0x0305, 0x02)] { start with x := 0x05, p := 0x25 } fun t =>
      (t.p == 0xA4 && byteAt t 0x0305 == 0x81 && t.pc == 0x0203)) = true := by
  decide

/-- Vector C11: `LSR $F0,X`. -/
theorem test_C11_lsrZpx :
    (ends [0x56, 0xF0] [(0x0010, 0x03)] { start with x := 0x20 } fun t =>
      (t.p == 0x25 && byteAt t 0x0010 == 0x01 && t.pc == 0x0202)) = true := by
  decide

/-- Vector D1: `BCC +5`. -/
theorem test_D1_bcc :
    (ends [0x90, 0x05] [] { start with p := 0x24 } fun t =>
      (t.pc == 0x0207)) = true := by
  decide

/-- Vector D2: `BCC +5`. -/
theorem test_D2_bcc :
    (ends [0x90, 0x05] [] { start with p := 0x25 } fun t =>
      (t.pc == 0x0202)) = true := by
  decide

/-- Vector D3: `BCS -4`. -/
theorem test_D3_bcs :
    (ends [0xB0, 0xFC] [] { start with p := 0x25 } fun t =>
      (t.pc == 0x01FE)) = true := by
  decide

/-- Vector D4: `BEQ +127`. -/
theorem test_D4_beq :
    (ends [0xF0, 0x7F] [] { start with p := 0x26 } fun t =>
      (t.pc == 0x0281)) = true := by
  decide

/-- Vector D5: `BNE -128`. -/
theorem test_D5_bne :
    (ends [0xD0, 0x80] [] { start with p := 0x24 } fun t =>
      (t.pc == 0x0182)) = true := by
  decide

/-- Vector D7: `BVC +16`. -/
theorem test_D7_bvc :
    (ends [0x50, 0x10] [] { start with p := 0x64 } fun t =>
      (t.pc == 0x0202)) = true := by
  decide

/-- Vector D8: `BVS +16`. -/
theorem test_D8_bvs :
    (ends [0x70, 0x10] [] { start with p := 0x64 } fun t =>
      (t.pc == 0x0212)) = true := by
  decide

/-- Vector D9: `BPL +0`. -/
theorem test_D9_bpl :
    (ends [0x10, 0x00] [] { start with p := 0x24 } fun t =>
      (t.pc == 0x0202)) = true := by
  decide

/-- Vector D10: `BMI +32`. -/
theorem test_D10_bmi :
    (ends [0x30, 0x20] [] { start with p := 0xA4, pc := 0xFFF0 } fun t =>
      (t.pc == 0x0012)) = true := by
  decide

/-- Vector D11: `BMI -16`. -/
theorem test_D11_bmi :
    (ends [0x30, 0xF0] [] { start with p := 0xA4, pc := 0x0005 } fun t =>
      (t.pc == 0xFFF7)) = true := by
  decide

/-- Vector E1: `JMP $8123`. -/
theorem test_E1_jmpAbs :
    (ends [0x4C, 0x23, 0x81] [] start fun t =>
      (t.pc == 0x8123)) = true := by
  decide

/-- Vector E2: `JSR $0310`. -/
theorem test_E2_jsr :
    (ends [0x20, 0x10, 0x03] [] start fun t =>
      (t.sp == 0xFB && byteAt t 0x01FC == 0x02 && byteAt t 0x01FD == 0x02 && t.pc == 0x0310)) = true := by
  decide

/-- Vector E3: `JSR $0310`. -/
theorem test_E3_jsr :
    (ends [0x20, 0x10, 0x03] [] { start with sp := 0x00 } fun t =>
      (t.sp == 0xFE && byteAt t 0x0100 == 0x02 && byteAt t 0x01FF == 0x02 && t.pc == 0x0310)) = true := by
  decide

/-- Vector E4: `RTS`. -/
theorem test_E4_rts :
    (ends [0x60] [(0x01FC, 0x02), (0x01FD, 0x02)] { start with sp := 0xFB } fun t =>
      (t.sp == 0xFD && t.pc == 0x0203)) = true := by
  decide

/-- Vector E6: `BRK`. -/
theorem test_E6_brk :
    (ends [0x00] [(0xFFFE, 0x40), (0xFFFF, 0x90)] { start with p := 0x65 } fun t =>
      (t.sp == 0xFA && byteAt t 0x01FB == 0x75 && byteAt t 0x01FC == 0x02 && byteAt t 0x01FD == 0x02 && t.pc == 0x9040)) = true := by
  decide

/-- Vector E7: `BRK`. -/
theorem test_E7_brk :
    (ends [0x00] [(0xFFFE, 0x00), (0xFFFF, 0x03)] { start with p := 0x20 } fun t =>
      (t.sp == 0xFA && t.p == 0x24 && byteAt t 0x01FB == 0x30 && byteAt t 0x01FC == 0x02 && byteAt t 0x01FD == 0x02 && t.pc == 0x0300)) = true := by
  decide

/-- Vector E8: `RTI`. -/
theorem test_E8_rti :
    (ends [0x40] [(0x01FB, 0xFF), (0x01FC, 0x34), (0x01FD, 0x12)] { start with sp := 0xFA } fun t =>
      (t.sp == 0xFD && t.p == 0xEF && t.pc == 0x1234)) = true := by
  decide

/-- Vector E9: `RTI`. -/
theorem test_E9_rti :
    (ends [0x40] [(0x01FB, 0x00), (0x01FC, 0x02), (0x01FD, 0x02)] { start with sp := 0xFA } fun t =>
      (t.sp == 0xFD && t.p == 0x20 && t.pc == 0x0202)) = true := by
  decide

/-- Vector G1: `CMP #$40`. -/
theorem test_G1_cmpImm :
    (ends [0xC9, 0x40] [] { start with a := 0x40 } fun t =>
      (t.p == 0x27 && t.pc == 0x0202)) = true := by
  decide

/-- Vector G4: `CMP #$7F`. -/
theorem test_G4_cmpImm :
    (ends [0xC9, 0x7F] [] { start with a := 0x80, p := 0x64 } fun t =>
      (t.p == 0x65 && t.pc == 0x0202)) = true := by
  decide

/-- Vector G6: `CPX $10`. -/
theorem test_G6_cpxZp :
    (ends [0xE4, 0x10] [(0x0010, 0x05)] { start with x := 0x05 } fun t =>
      (t.p == 0x27 && t.pc == 0x0202)) = true := by
  decide

/-- Vector G7: `CPY #$20`. -/
theorem test_G7_cpyImm :
    (ends [0xC0, 0x20] [] { start with y := 0x10 } fun t =>
      (t.p == 0xA4 && t.pc == 0x0202)) = true := by
  decide

/-- Vector G8: `INC $10`. -/
theorem test_G8_incZp :
    (ends [0xE6, 0x10] [(0x0010, 0xFF)] start fun t =>
      (t.p == 0x26 && byteAt t 0x0010 == 0x00 && t.pc == 0x0202)) = true := by
  decide

/-- Vector G9: `INC $0300,X`. -/
theorem test_G9_incAbsx :
    (ends [0xFE, 0x00, 0x03] [(0x0301, 0x7F)] { start with x := 0x01 } fun t =>
      (t.p == 0xA4 && byteAt t 0x0301 == 0x80 && t.pc == 0x0203)) = true := by
  decide

/-- Vector G10: `DEC $10`. -/
theorem test_G10_decZp :
    (ends [0xC6, 0x10] [(0x0010, 0x00)] start fun t =>
      (t.p == 0xA4 && byteAt t 0x0010 == 0xFF && t.pc == 0x0202)) = true := by
  decide

/-- Vector G11: `DEC $10`. -/
theorem test_G11_decZp :
    (ends [0xC6, 0x10] [(0x0010, 0x01)] start fun t =>
      (t.p == 0x26 && byteAt t 0x0010 == 0x00 && t.pc == 0x0202)) = true := by
  decide

/-- Vector G12: `INX`. -/
theorem test_G12_inx :
    (ends [0xE8] [] { start with x := 0xFF } fun t =>
      (t.x == 0x00 && t.p == 0x26 && t.pc == 0x0201)) = true := by
  decide

/-- Vector G13: `DEX`. -/
theorem test_G13_dex :
    (ends [0xCA] [] { start with x := 0x00 } fun t =>
      (t.x == 0xFF && t.p == 0xA4 && t.pc == 0x0201)) = true := by
  decide

/-- Vector G14: `INY`. -/
theorem test_G14_iny :
    (ends [0xC8] [] { start with y := 0x7F } fun t =>
      (t.y == 0x80 && t.p == 0xA4 && t.pc == 0x0201)) = true := by
  decide

/-- Vector G15: `DEY`. -/
theorem test_G15_dey :
    (ends [0x88] [] { start with y := 0x01 } fun t =>
      (t.y == 0x00 && t.p == 0x26 && t.pc == 0x0201)) = true := by
  decide

/-- Vector H1: `TAX`. -/
theorem test_H1_tax :
    (ends [0xAA] [] { start with a := 0x80 } fun t =>
      (t.x == 0x80 && t.p == 0xA4 && t.pc == 0x0201)) = true := by
  decide

/-- Vector H2: `TAY`. -/
theorem test_H2_tay :
    (ends [0xA8] [] { start with a := 0x00, y := 0x55 } fun t =>
      (t.y == 0x00 && t.p == 0x26 && t.pc == 0x0201)) = true := by
  decide

/-- Vector H3: `TXA`. -/
theorem test_H3_txa :
    (ends [0x8A] [] { start with a := 0xFF, x := 0x7F, p := 0xA4 } fun t =>
      (t.a == 0x7F && t.p == 0x24 && t.pc == 0x0201)) = true := by
  decide

/-- Vector H4: `TYA`. -/
theorem test_H4_tya :
    (ends [0x98] [] { start with y := 0xFF } fun t =>
      (t.a == 0xFF && t.p == 0xA4 && t.pc == 0x0201)) = true := by
  decide

/-- Vector H5: `TSX`. -/
theorem test_H5_tsx :
    (ends [0xBA] [] start fun t =>
      (t.x == 0xFD && t.p == 0xA4 && t.pc == 0x0201)) = true := by
  decide

/-- Vector H6: `TXS`. -/
theorem test_H6_txs :
    (ends [0x9A] [] { start with x := 0x00, p := 0x24 } fun t =>
      (t.sp == 0x00 && t.pc == 0x0201)) = true := by
  decide

/-- Vector H7: `PHA`. -/
theorem test_H7_pha :
    (ends [0x48] [] { start with a := 0x42 } fun t =>
      (t.sp == 0xFC && byteAt t 0x01FD == 0x42 && t.pc == 0x0201)) = true := by
  decide

/-- Vector H8: `PHA`. -/
theorem test_H8_pha :
    (ends [0x48] [] { start with a := 0x42, sp := 0x00 } fun t =>
      (t.sp == 0xFF && byteAt t 0x0100 == 0x42 && t.pc == 0x0201)) = true := by
  decide

/-- Vector H10: `PLA`. -/
theorem test_H10_pla :
    (ends [0x68] [(0x01FD, 0x80)] { start with sp := 0xFC } fun t =>
      (t.a == 0x80 && t.sp == 0xFD && t.p == 0xA4 && t.pc == 0x0201)) = true := by
  decide

/-- Vector H11: `PHP`. -/
theorem test_H11_php :
    (ends [0x08] [] { start with p := 0xE5 } fun t =>
      (t.sp == 0xFC && byteAt t 0x01FD == 0xF5 && t.pc == 0x0201)) = true := by
  decide

/-- Vector H12: `PLP`. -/
theorem test_H12_plp :
    (ends [0x28] [(0x01FD, 0xC3)] { start with sp := 0xFC } fun t =>
      (t.sp == 0xFD && t.p == 0xE3 && t.pc == 0x0201)) = true := by
  decide

/-- Vector I1: `CLC`. -/
theorem test_I1_clc :
    (ends [0x18] [] { start with p := 0xE7 } fun t =>
      (t.p == 0xE6 && t.pc == 0x0201)) = true := by
  decide

/-- Vector I2: `SEC`. -/
theorem test_I2_sec :
    (ends [0x38] [] { start with p := 0x24 } fun t =>
      (t.p == 0x25 && t.pc == 0x0201)) = true := by
  decide

/-- Vector I3: `CLI`. -/
theorem test_I3_cli :
    (ends [0x58] [] { start with p := 0x24 } fun t =>
      (t.p == 0x20 && t.pc == 0x0201)) = true := by
  decide

/-- Vector I4: `SEI`. -/
theorem test_I4_sei :
    (ends [0x78] [] { start with p := 0x20 } fun t =>
      (t.p == 0x24 && t.pc == 0x0201)) = true := by
  decide

/-- Vector I5: `CLD`. -/
theorem test_I5_cld :
    (ends [0xD8] [] { start with p := 0x2C } fun t =>
      (t.p == 0x24 && t.pc == 0x0201)) = true := by
  decide

/-- Vector I6: `SED`. -/
theorem test_I6_sed :
    (ends [0xF8] [] { start with p := 0x24 } fun t =>
      (t.p == 0x2C && t.pc == 0x0201)) = true := by
  decide

/-- Vector I7: `CLV`. -/
theorem test_I7_clv :
    (ends [0xB8] [] { start with p := 0xE4 } fun t =>
      (t.p == 0xA4 && t.pc == 0x0201)) = true := by
  decide

/-- Vector I8: `NOP`. -/
theorem test_I8_nop :
    (ends [0xEA] [] { start with a := 0x12, p := 0xE7 } fun t =>
      (t.pc == 0x0201)) = true := by
  decide

/-- Vector J1: `LDA #$00`. -/
theorem test_J1_ldaImm :
    (ends [0xA9, 0x00] [] { start with a := 0x7F } fun t =>
      (t.a == 0x00 && t.p == 0x26 && t.pc == 0x0202)) = true := by
  decide

/-- Vector J3: `LDX $10,Y`. -/
theorem test_J3_ldxZpy :
    (ends [0xB6, 0x10] [(0x0012, 0x33)] { start with y := 0x02 } fun t =>
      (t.x == 0x33 && t.pc == 0x0202)) = true := by
  decide

/-- Vector J4: `LDY $0300,X`. -/
theorem test_J4_ldyAbsx :
    (ends [0xBC, 0x00, 0x03] [(0x03FF, 0xFE)] { start with x := 0xFF } fun t =>
      (t.y == 0xFE && t.p == 0xA4 && t.pc == 0x0203)) = true := by
  decide

/-- Vector J5: `STA $0300`. -/
theorem test_J5_staAbs :
    (ends [0x8D, 0x00, 0x03] [] { start with a := 0x00, p := 0xA4 } fun t =>
      (t.pc == 0x0203)) = true := by
  decide

/-- Vector J6: `STA ($10),Y`. -/
theorem test_J6_staIndy :
    (ends [0x91, 0x10] [(0x0010, 0xFF), (0x0011, 0x02)] { start with a := 0x77, y := 0x01 } fun t =>
      (byteAt t 0x0300 == 0x77 && t.pc == 0x0202)) = true := by
  decide

/-- Vector J7: `STX $10,Y`. -/
theorem test_J7_stxZpy :
    (ends [0x96, 0x10] [] { start with x := 0x05, y := 0xF8 } fun t =>
      (byteAt t 0x0008 == 0x05 && t.pc == 0x0202)) = true := by
  decide

/-- Vector J8: `STY $10,X`. -/
theorem test_J8_styZpx :
    (ends [0x94, 0x10] [] { start with x := 0x01, y := 0xAA } fun t =>
      (byteAt t 0x0011 == 0xAA && t.pc == 0x0202)) = true := by
  decide

/-- Vector J9: `BIT $10`. -/
theorem test_J9_bitZp :
    (ends [0x24, 0x10] [(0x0010, 0xF0)] { start with a := 0x0F } fun t =>
      (t.p == 0xE6 && t.pc == 0x0202)) = true := by
  decide

/-- Vector J10: `BIT $10`. -/
theorem test_J10_bitZp :
    (ends [0x24, 0x10] [(0x0010, 0x01)] { start with a := 0xFF, p := 0xE4 } fun t =>
      (t.p == 0x24 && t.pc == 0x0202)) = true := by
  decide

/-- Vector J11: `STA $8000`. -/
theorem test_J11_staAbs :
    (ends [0x8D, 0x00, 0x80] [] { start with a := 0x99 } fun t =>
      (byteAt t 0x8000 == 0x99 && t.pc == 0x0203)) = true := by
  decide
/-! Decoding (K1 to K12): the words written out from rule R111. -/

theorem test_K1_nop : decode [0xEA] = .instr .nop [] := by decide
theorem test_K2_ldaImm : decode [0xA9, 0x01] = .instr (.ldaImm 0x01) [] := by decide
theorem test_K3_staAbs : decode [0x8D, 0x06, 0x20] = .instr (.staAbs 0x2006) [] := by decide
theorem test_K4_jmpInd : decode [0x6C, 0xFC, 0xFF] = .instr (.jmpInd 0xFFFC) [] := by decide
theorem test_K5_aslAcc : decode [0x0A] = .instr .aslAcc [] := by decide
theorem test_K6_ldaIndy : decode [0xB1, 0x10] = .instr (.ldaIndy 0x10) [] := by decide
theorem test_K7_stxZpy : decode [0x96, 0x10] = .instr (.stxZpy 0x10) [] := by decide
theorem test_K8_brk : decode [0x00] = .instr .brk [] := by decide
theorem test_decode_branch : decode [0x90, 0x05] = .instr (.bcc 0x05) [] := by decide
theorem test_decode_arithmetic : decode [0x7D, 0x1A, 0x80] = .instr (.adcAbsx 0x801A) [] := by decide
theorem test_decode_compare : decode [0xE0, 0x05, 0xD0] = .instr (.cpxImm 0x05) [0xD0] := by decide
theorem test_decode_transfer : decode [0x9A, 0xA9] = .instr .txs [0xA9] := by decide
theorem test_decode_flags : decode [0x18] = .instr .clc [] := by decide
theorem test_decode_truncated : decode [0x6C, 0xFF] = .truncated 0x6C := by decide

/-- K9 to K12: undefined bytes are rejected by name. -/
theorem test_K9_undefined :
    [decode [0x02, 0x55, 0x66], decode [0xFF], decode [0x80], decode [0x1A]] =
      [.unknownOpcode 0x02, .unknownOpcode 0xFF, .unknownOpcode 0x80, .unknownOpcode 0x1A] := by decide

/-- K9: the CPU halts with the byte and its address recorded, and PC stays. -/
theorem test_K9_halts :
    (ends [0x02, 0x55, 0x66] [] start fun t =>
      t.halted == some (.unknownOpcode 0x02 0x0200) && t.pc == 0x0200) = true := by decide

/-! Well-formedness (R111): an ill-formed pairing for each kind of cell that is empty. -/

theorem test_no_store_immediate : pairDefined .sta .imm = false := by decide
theorem test_no_branch_absolute : pairDefined .bne .abs = false := by decide
theorem test_no_indirect_call : pairDefined .jsr .ind = false := by decide
theorem test_ldx_indexed_by_y : pairDefined .ldx .zpx = false := by decide

/-- R111 gives 151 pairs. -/
theorem test_pair_count :
    ([Mnemonic.adc, .sbc, .and, .ora, .eor, .asl, .lsr, .rol, .ror, .bcc, .bcs, .beq, .bne, .bvc, .bvs, .bpl, .bmi,
      .jmp, .jsr, .rts, .brk, .rti, .cmp, .cpx, .cpy, .inc, .dec, .inx, .dex, .iny, .dey, .tax, .tay, .txa, .tya,
      .tsx, .txs, .pha, .pla, .php, .plp, .clc, .sec, .cli, .sei, .cld, .sed, .clv, .nop, .lda, .ldx, .ldy, .sta,
      .stx, .sty, .bit].map fun k => k.modes.length).sum = 151 := by decide

/-! The register window and the controller port (P1 to P15). -/

/-- An access of a row of 95_test_vectors.md section 2.11. -/
inductive Access where
  | r (a : Word)
  | w (a : Word) (v : Byte)

/-- The accesses in order, and the state after the last. -/
def accesses : List Access → State → State
  | [], s => s
  | .r a :: l, s => accesses l (memRead a s).2
  | .w a v :: l, s => accesses l (memWrite a v s)

/-- `accesses` with the bytes the reads give. -/
def readsOf : List Access → State → List Byte
  | [], _ => []
  | .r a :: l, s => (memRead a s).1 :: readsOf l (memRead a s).2
  | .w a v :: l, s => readsOf l (memWrite a v s)

theorem test_P1_vaddr :
    (let t := accesses [.w 0x2006 0x21, .w 0x2006 0x08] start
     t.vaddr == 0x2108 && !t.w) = true := by decide
theorem test_P2_vram_data :
    (let t := accesses [.w 0x2006 0x21, .w 0x2006 0x08, .w 0x2007 0xAA, .w 0x2007 0xBB] start
     t.ppuMem == [(0x2108, 0xAA), (0x2109, 0xBB)] && t.vaddr == 0x210A) = true := by decide
theorem test_P3_increment_32 :
    (let t := accesses [.w 0x2000 0x04, .w 0x2006 0x20, .w 0x2006 0x00, .w 0x2007 0x01, .w 0x2007 0x02] start
     t.ppuMem == [(0x2000, 0x01), (0x2020, 0x02)] && t.vaddr == 0x2040) = true := by decide
theorem test_P4_unbuffered :
    readsOf [.w 0x2006 0x3F, .w 0x2006 0x00, .w 0x2007 0x2C, .w 0x2006 0x3F, .w 0x2006 0x00, .r 0x2007, .r 0x2007]
      start = [0x2C, 0x00] := by decide
theorem test_P5_vram_modulo :
    (let t := accesses [.w 0x2006 0x7F, .w 0x2006 0xFF, .w 0x2007 0x5A] start
     t.ppuMem == [(0x3FFF, 0x5A)] && t.vaddr == 0x8000) = true := by decide
theorem test_P6_vaddr_wraps :
    (accesses [.w 0x2006 0xFF, .w 0x2006 0xFF, .r 0x2007] start).vaddr = 0 := by decide

/-- P7: bits 7 to 5 of two status reads; bits 4 to 0 are drawn. -/
theorem test_P7_status :
    let s := { start with vblank := true, spr0hit := true }
    (readsOf [.r 0x2002, .r 0x2002] s).map (fun v => v.extractLsb' 5 3) = [0b110#3, 0b010#3] ∧
      (accesses [.r 0x2002, .r 0x2002] s).vblank = false ∧ (accesses [.r 0x2002, .r 0x2002] s).spr0hit = true :=
  ⟨by
    simp only [readsOf, memRead, classify, readPpuReg, List.map]
    exact congrArg₂ (fun u v => [u, v])
      (by show BitVec.extractLsb' 5 3 (_ ++ Config.statusLowBits 1) = _
          generalize Config.statusLowBits 1 = l; revert l; decide)
      (by show BitVec.extractLsb' 5 3 (_ ++ Config.statusLowBits 2) = _
          generalize Config.statusLowBits 2 = l; revert l; decide),
    by decide, by decide⟩
theorem test_P8_status_resets_toggle :
    (let t := accesses [.w 0x2006 0x12, .r 0x2002, .w 0x2006 0x34, .w 0x2006 0x56] start
     t.vaddr == 0x3456 && !t.w) = true := by decide
theorem test_P9_shared_toggle :
    (let t := accesses [.w 0x2005 0x11, .w 0x2006 0x22] start
     t.scrollx == 0x11 && t.vaddr == 0x0022 && !t.w) = true := by decide
theorem test_P10_scroll :
    (let t := accesses [.w 0x2005 0x11, .w 0x2005 0x22] start
     t.scrollx == 0x11 && t.scrolly == 0x22 && !t.w) = true := by decide
theorem test_P11_oam :
    (let t := accesses [.w 0x2003 0xFE, .w 0x2004 0x01, .w 0x2004 0x02, .w 0x2004 0x03, .r 0x2004] start
     t.oam == [(0x00, 0x03), (0xFE, 0x01), (0xFF, 0x02)] && t.oamaddr == 0x01) = true := by decide
theorem test_P12_mirrors :
    (let t := accesses [.w 0x3FF8 0x10, .w 0x2F01 0x1E, .w 0x2002 0xFF] start
     t.ppuctrl == 0x10 && t.ppumask == 0x1E) = true := by decide
theorem test_P13_write_only_reads :
    readsOf [.r 0x2000, .r 0x2005] start = [Config.writeOnlyRead 1, Config.writeOnlyRead 2] ∧
      (accesses [.r 0x2000, .r 0x2005] start).w = false := ⟨rfl, rfl⟩

/-- P14: the serial read of a latched button byte 0x91, then ones. -/
theorem test_P14_controller :
    let s := { start with shift := 0x91 }
    readsOf (List.replicate 10 (.r 0x4016)) s = [1, 0, 0, 0, 1, 0, 0, 1, 1, 1] ∧
      (accesses (List.replicate 10 (.r 0x4016)) s).shift = 0xFF := by decide

/-- P15: the strobe writes latch, and with the strobe on every read redraws. -/
theorem test_P15_strobe :
    (accesses [.w 0x4016 0x01, .w 0x4016 0x00] start).shift = Config.buttons 1 ∧
      readsOf [.w 0x4016 0x01, .r 0x4016, .r 0x4016] start = [Config.buttons 2 &&& 1, Config.buttons 3 &&& 1] :=
  ⟨rfl, rfl⟩

/-- R87: executing from the window reads its registers: a fetch at 0x2007 advances VADDR per byte. -/
theorem test_fetch_from_window :
    (match fetch { start with pc := 0x2007, ppuMem := [(0, 0xEA)] } with
     | .instr .nop t => t.vaddr == 1
     | _ => false) = true := by decide

/-! The tile decoder (T1 to T3). -/

/-- The PPU memory of T1 and T3, with the solid tile 2 of section 2.13. -/
def tiles : Memory :=
  memOfBytes 0x0010 [0x41, 0xC2, 0x44, 0x48, 0x10, 0x20, 0x40, 0x80, 0x01, 0x02, 0x04, 0x08, 0x16, 0x21, 0x42, 0x87] ++
  memOfBytes 0x0020 (List.replicate 16 0xFF)

/-- The palette RAM of T3. -/
def palette : Memory :=
  memOfBytes 0x3F00 [0x0F, 0x01, 0x11, 0x21, 0x0F, 0x06, 0x16, 0x26, 0xFF, 0x40, 0x80, 0xC1, 0, 0, 0, 0,
    0x0F, 0x30, 0x27, 0x17]

/-- The eight pixels of a tile row. -/
def tileRow (mem : Memory) (t : Byte) (r : Nat) : List (BitVec 2) := (List.range 8).map fun c => tilePixel mem 0 t c r

theorem test_T1_row0 : tileRow tiles 1 0 = [0, 1, 0, 0, 0, 0, 0, 3] := by decide
theorem test_T1_row4 : tileRow tiles 1 4 = [0, 0, 0, 3, 0, 2, 2, 0] := by decide
theorem test_T1_row7 : tileRow tiles 1 7 = [3, 0, 0, 0, 0, 2, 2, 2] := by decide
theorem test_T2_row4 :
    tileRow (memOfBytes 0x0018 [0x01, 0x02, 0x04, 0x08, 0x16, 0x21, 0x42, 0x87]) 1 4 = [0, 0, 0, 2, 0, 2, 2, 0] := by
  decide
theorem test_T3_background :
    ([(0, 0), (1, 0), (0, 3), (1, 2), (2, 0), (2, 1), (2, 2), (2, 3)].map fun (g, ci) =>
      (paletteIndex .background g ci).map (colour palette)) =
      [some 0x0F, some 0x0F, some 0x21, some 0x16, some 0x0F, some 0x00, some 0x00, some 0x01] := by decide
theorem test_T3_sprite :
    ([(0, 0), (0, 1), (0, 3), (3, 2)].map fun (g, ci) => (paletteIndex .sprite g ci).map (colour palette)) =
      [none, some 0x30, some 0x17, some 0x00] := by decide

/-! The compositor (F1 to F10). -/

/-- The scene of section 2.13 with the given OAM. -/
def scene (oam : Memory) : Snapshot where
  mem := tiles ++ [(0x2022, 0x01), (0x2023, 0x02), (0x2042, 0x01), (0x23C0, 0x84)] ++ palette
  oam := oam
  bgPt := false
  sprPt := false

/-- `n` pixels of row `y` from column `x`. -/
def pixels (q : Snapshot) (x y n : Nat) : List (BitVec 6) := (List.range n).map fun k => pixel q (x + k) y

theorem test_F1_row8 : pixels (scene []) 16 8 9 = [0x0F, 0x06, 0x0F, 0x0F, 0x0F, 0x0F, 0x0F, 0x26, 0x26] := by decide
theorem test_F1_row23 : pixels (scene []) 16 23 9 = [0x01, 0x0F, 0x0F, 0x0F, 0x0F, 0x00, 0x00, 0x00, 0x0F] := by decide
theorem test_F2_sprite :
    let q := scene (memOfBytes 0 [0x28, 0x02, 0x00, 0x64])
    [pixel q 100 40, pixel q 107 47, pixel q 108 40, pixel q 100 48] = [0x17, 0x17, 0x0F, 0x0F] ∧
      spriteZeroHit q = false := by decide
theorem test_F3_F4_front :
    let q := scene (memOfBytes 0 [0x08, 0x02, 0x00, 0x10])
    pixels q 16 8 8 = List.replicate 8 0x17 ∧ spriteZeroHit q = true := by decide
theorem test_F5_record1 :
    let q := scene (memOfBytes 4 [0x08, 0x02, 0x00, 0x10])
    pixels q 16 8 2 = [0x17, 0x17] ∧ spriteZeroHit q = false := by decide
theorem test_F6_behind :
    let q := scene (memOfBytes 0 [0x08, 0x02, 0x20, 0x10])
    pixels q 16 8 8 = [0x17, 0x06, 0x17, 0x17, 0x17, 0x17, 0x17, 0x26] ∧ spriteZeroHit q = true := by decide
theorem test_F7_lowest_record :
    let q := scene (memOfBytes 0 [0x08, 0x02, 0x20, 0x10, 0x08, 0x02, 0x01, 0x10])
    pixels { q with mem := q.mem ++ memOfBytes 0x3F15 [0x2A, 0x2A, 0x2A] } 16 8 8 =
      [0x17, 0x06, 0x17, 0x17, 0x17, 0x17, 0x17, 0x26] := by decide
theorem test_F8_no_flip :
    pixels (scene (memOfBytes 0 [0x64, 0x01, 0x00, 0x32])) 50 100 8 =
      [0x0F, 0x30, 0x0F, 0x0F, 0x0F, 0x0F, 0x0F, 0x17] := by decide
theorem test_F8_flip_h :
    pixels (scene (memOfBytes 0 [0x64, 0x01, 0x40, 0x32])) 50 100 8 =
      [0x17, 0x0F, 0x0F, 0x0F, 0x0F, 0x0F, 0x30, 0x0F] := by decide
theorem test_F8_flip_v :
    pixels (scene (memOfBytes 0 [0x64, 0x01, 0x80, 0x32])) 50 100 8 =
      [0x17, 0x0F, 0x0F, 0x0F, 0x0F, 0x27, 0x27, 0x27] := by decide
theorem test_F8b_clipped :
    let q := scene (memOfBytes 0 [0xEC, 0x02, 0x00, 0xFC])
    [pixel q 252 236, pixel q 255 239, pixel q 0 236] = [0x17, 0x17, 0x0F] := by decide

/-- F10: the status bits through one cycle of the compositor, with the scene of F3 in memory. -/
theorem test_F10_cycle :
    let s0 := { start with ppuMem := (scene []).mem, oam := memOfBytes 0 [0x08, 0x02, 0x00, 0x10] }
    let s1 := compositorStep s0
    let s2 := compositorStep s1
    let s3 := compositorStep (accesses [.r 0x2002] s2)
    [s0, s1, s2, accesses [.r 0x2002] s2, s3].map (fun s => (s.vblank, s.spr0hit, s.phase)) =
      [(false, false, .idle), (false, true, .rendered), (true, true, .inVBlank), (false, true, .inVBlank),
       (false, false, .idle)] := by decide

/-! Boot (L3 to L7) and the fixed names the host calls. -/

/-- A header with the given bank counts and flag byte. -/
def header (p c f : Byte) : List Byte := [0x4E, 0x45, 0x53, 0x1A, p, c, f, 0, 0, 0, 0, 0, 0, 0, 0, 0]

theorem test_L3_short : imageValid (List.replicate 15 0) = false := by decide
theorem test_L5_three_banks (body : List Byte) : imageValid (header 3 0 0 ++ body) = false := by
  simp [imageValid, programBanks, header]
theorem test_L6_no_bank (body : List Byte) : boot (header 0 0 0 ++ body) = .fault .romFormatError := by
  simp [boot, imageValid, programBanks, header]
theorem test_L4_one_byte_short (body : List Byte) (h : body.length = 16384 + 8191) :
    imageValid (header 1 1 0 ++ body) = false := by
  simp [imageValid, programBanks, patternBanks, header, headerBytes, Config.prgBankBytes, Config.chrBankBytes, h]

/-- L1, L7: accepted with one bank whatever the magic bytes hold; MIRRORING from bit 0 of byte 6. -/
theorem test_L7_magic_unchecked (body : List Byte) (h : body.length = 16384) :
    imageValid ((header 1 0 1).set 0 0 ++ body) = true ∧
      imageMirroring ((header 1 0 1).set 0 0 ++ body) = .vertical := by
  simp [imageValid, imageMirroring, programBanks, patternBanks, header, headerBytes, Config.prgBankBytes,
    Config.chrBankBytes, h]

/-- R401, R402, R55 in one place. -/
theorem test_reset_registers :
    let s := State.reset
    (s.a, s.x, s.y, s.sp, s.p, s.pc) = (0, 0, 0, 0xFD, 0x24, 0) ∧ s.phase = .idle ∧ s.halted = none := by decide

theorem test_table_word : decodeTableWord 8 0x6D = some (.adcAbs 0) := by decide
theorem test_table_word_undefined : decodeTableWord 8 0x02 = none := by decide

/-- The placed word is what the very next step runs: INX after reset. -/
theorem test_fetch_word :
    (match step (State.reset.withFetchWord 8 0xE8) with
     | .next t => t.x == 1 && t.pc == 1
     | _ => false) = true := by decide

/-- The same where PC points into the register window (log entry 9). -/
theorem test_fetch_word_window :
    (match step (({ State.reset with pc := 0x2000 } : State).withFetchWord 16 0x42A9) with
     | .next t => t.a == 0x42 && t.pc == 0x8002
     | _ => false) = true := by decide


/-! Witnesses: for each statement of Certificates/Slice0/Obligations.lean with hypotheses, a state and operands that
meet them, one per clause, at a boundary where the clause has a range. -/

theorem witness_DecodedBytesAreTheEncoding :
    decode [0x6C, 0xFC, 0xFF, 0x02] = .instr (.jmpInd 0xFFFC) [0x02] := by decide

theorem witness_UndefinedBytesAreRejected :
    (0x02 : Byte) ∈ undefinedOpcodes ∧ (0xFF : Byte) ∈ undefinedOpcodes ∧ (0x00 : Byte) ∉ undefinedOpcodes ∧
      (0xFE : Byte) ∉ undefinedOpcodes := by decide

theorem witness_OpcodeFixesTheLength :
    decode [0x20, 0x34, 0x12] = .instr (.jsr 0x1234) [] ∧ decode [0x20, 0xFF, 0xFF, 0x00] = .instr (.jsr 0xFFFF) [0x00] := by
  decide

/-- A JMP whose bytes straddle 0xFFFF, for the two statements about the decoded instruction. -/
def straddling : State :=
  withBytes [(0xFFFF, 0x4C), (0x0000, 0x34), (0x0001, 0x12)] { start with pc := 0xFFFF }

theorem witness_StepRunsTheDecodedInstruction :
    straddling.halted = none ∧ straddling.cpuLeft = 0 + 1 ∧
      (let op := memRead straddling.pc { straddling with cpuLeft := 0 }
       let b1 := memRead (straddling.pc + 1) op.2
       let b2 := memRead (straddling.pc + 2) b1.2
       decode [op.1, b1.1, b2.1] = .instr (.jmpAbs 0x1234) []) := by decide

/-- The same in the register window: NOP read from the OAM data port. -/
theorem witness_StepRunsTheDecodedInstruction_window :
    let s := { start with pc := 0x2004, oam := [(0, 0xEA)] }
    let op := memRead s.pc { s with cpuLeft := 0 }
    let b1 := memRead (s.pc + 1) op.2
    let b2 := memRead (s.pc + 2) b1.2
    s.halted = none ∧ s.cpuLeft = 0 + 1 ∧ decode [op.1, b1.1, b2.1] = .instr .nop [b1.1, b2.1] := ⟨rfl, rfl, rfl⟩

theorem witness_StepFromStorageRunsTheBytesThere :
    straddling.halted = none ∧ straddling.cpuLeft = 0 + 1 ∧ classify straddling.pc = .plain ∧
      classify (straddling.pc + 1) = .plain ∧ classify (straddling.pc + 2) = .plain ∧
      decode [memGet straddling.cpuMem 0xFFFF, memGet straddling.cpuMem 0, memGet straddling.cpuMem 1] =
        .instr (.jmpAbs 0x1234) [] := by decide

theorem witness_UndefinedOpcodeHaltsTheCpu :
    let s := withBytes [(0x0200, 0xFF)] start
    s.halted = none ∧ s.cpuLeft = 0 + 1 ∧ (memRead s.pc { s with cpuLeft := 0 }).1 ∈ undefinedOpcodes := by decide

theorem witness_HaltedCpuNeverMovesAgain :
    ({ start with halted := some (.unknownOpcode 0x02 0x0200) } : State).halted = some (.unknownOpcode 0x02 0x0200) := rfl

/-- `start` with a NOP at PC has the invariant, and its step answers a next state. -/
theorem witness_StepKeepsTheInvariant :
    let s := withBytes [(0x0200, 0xEA)] start
    StateInv s ∧ step s = .next { s with pc := 0x0201, cpuLeft := 0 } :=
  ⟨⟨by decide, by decide, by decide, by decide, by decide, by decide, by decide, by decide, by decide, by decide⟩, rfl⟩

/-- Accepted images: one program bank; two, and a pattern bank. -/
theorem witness_accepted_images (one two : List Byte) (h : one.length = 16384) (h' : two.length = 32768 + 8192) :
    imageValid (header 1 0 1 ++ one) = true ∧ imageValid (header 2 1 0 ++ two) = true := by
  constructor <;>
    simp [imageValid, programBanks, patternBanks, header, headerBytes, Config.prgBankBytes, Config.chrBankBytes, h, h']

theorem witness_BootedMachineHasTheInvariant : ∃ img s, boot img = .next s :=
  ⟨header 1 0 1 ++ List.replicate 16384 0, _,
    if_pos (witness_accepted_images _ (List.replicate 40960 0) List.length_replicate List.length_replicate).1⟩

/-- Each clause of the loader's statement: not accepted, one bank, two banks with a pattern bank. -/
theorem witness_BootLoadsTheImage (one two : List Byte) (h : one.length = 16384) (h' : two.length = 32768 + 8192) :
    ¬ (16 + 16384 * 1 + 8192 * 0 ≤ (header 1 0 0).length) ∧
      (let img := header 1 0 1 ++ one
       16 ≤ img.length ∧ (img.getD 4 0).toNat = 1 ∧ (img.getD 5 0).toNat = 0 ∧
         16 + 16384 * 1 + 8192 * 0 ≤ img.length) ∧
      (let img := header 2 1 0 ++ two
       16 ≤ img.length ∧ (img.getD 4 0).toNat = 2 ∧ (img.getD 5 0).toNat = 1 ∧
         16 + 16384 * 2 + 8192 * 1 ≤ img.length) := by
  simp [header, h, h']

theorem witness_BootLoadsTheImage_bodies :
    (List.replicate 16384 (0 : Byte)).length = 16384 ∧
      (List.replicate (32768 + 8192) (0 : Byte)).length = 32768 + 8192 :=
  ⟨List.length_replicate, List.length_replicate⟩

theorem witness_AddressClasses :
    [(0x0000 : Word), 0x1FFF, 0x2000, 0x2007, 0x2008, 0x3FFF, 0x4000, 0x4015, 0x4016, 0x4017, 0xFFFF].map classify =
      [.plain, .plain, .ppuReg .control, .ppuReg .vramData, .ppuReg .control, .ppuReg .vramData, .plain, .plain,
        .controller, .plain, .plain] := by decide

theorem witness_StorageReadsTheLatestWrite : classify 0x1FFF = .plain ∧ classify 0x4000 = .plain := by decide

/-- The range of the window and each offset clause, at its two ends. -/
theorem witness_WindowReadEffects :
    [(0x2002 : Word), 0x3FFA, 0x2004, 0x3FFC, 0x2007, 0x3FFF, 0x2000, 0x2001, 0x2003, 0x2005, 0x3FFE].map (fun a =>
      (decide (0x2000 ≤ a.toNat ∧ a.toNat ≤ 0x3FFF), a.toNat % 8)) =
      [(true, 2), (true, 2), (true, 4), (true, 4), (true, 7), (true, 7), (true, 0), (true, 1), (true, 3), (true, 5),
        (true, 6)] := by decide

theorem witness_WindowWriteEffects :
    [(0x2000 : Word), 0x3FF9, 0x2002, 0x2003, 0x3FFC, 0x2005, 0x3FFE, 0x3FFF].map (fun a =>
      (decide (0x2000 ≤ a.toNat ∧ a.toNat ≤ 0x3FFF), a.toNat % 8)) =
      [(true, 0), (true, 1), (true, 2), (true, 3), (true, 4), (true, 5), (true, 6), (true, 7)] := by decide

theorem witness_WindowMirrorsBehaveAlike :
    (0x3456 : Word).toNat % 8 = (0x2006 : Word).toNat % 8 ∧ 0x2000 ≤ (0x3456 : Word).toNat ∧
      (0x3456 : Word).toNat ≤ 0x3FFF := by decide

theorem witness_OamFillsWithTwoHundredFiftySixWrites :
    (List.replicate 256 (0x5A : Byte)).length = 256 ∧ start.oamaddr = 0 := ⟨List.length_replicate, rfl⟩

theorem witness_WriteToggleIsShared : start.w = false := by decide

theorem witness_ControllerPortAccesses :
    ({ start with strobe := true } : State).strobe = true ∧ start.strobe = false := by decide

/-- The eighth and the ninth read. -/
theorem witness_ControllerReadsSerially :
    let s := { start with shift := 0x7F }
    s.strobe = false ∧ (memRead 0x4016 (Nat.repeat (fun u => (memRead 0x4016 u).2) 7 s)).1 = 0 ∧
      (memRead 0x4016 (Nat.repeat (fun u => (memRead 0x4016 u).2) 8 s)).1 = 1 := by decide

/-- A pointer at the end of its page. -/
theorem witness_JumpsSetThePc : (0x02FF : Word).toNat = 256 * (0x02 : Byte).toNat + (0xFF : Byte).toNat := by decide

theorem witness_JsrPushesItsLastByteAddress :
    (0x1234 : Word).toNat = 256 * (0x12 : Byte).toNat + (0x34 : Byte).toNat := by decide

/-- S wraps within the pair of pushes. -/
theorem witness_RtsUndoesJsr :
    let s := { start with sp := 0x00 }
    let u := jumpSubroutine 0x1234 s
    exec (.jsr 0x1234) s = .next u ∧ u.sp = 0xFE ∧ memGet u.cpuMem (stackCell 0x00) = 0x02 ∧
      memGet u.cpuMem (stackCell 0xFF) = 0x02 := by
  refine ⟨rfl, ?_⟩
  decide

theorem witness_RtiUndoesBrk :
    let s := { start with sp := 0x01 }
    let u := takeTrap (s.pc + 2) irqVector s
    flagOf .b s.p = false ∧ flagOf .u s.p = true ∧ exec .brk s = .next u ∧ u.sp = 0xFE ∧
      memGet u.cpuMem (stackCell 0x01) = 0x02 ∧ memGet u.cpuMem (stackCell 0x00) = 0x02 ∧
      memGet u.cpuMem (stackCell 0xFF) = 0x34 := by
  refine ⟨by decide, by decide, rfl, ?_⟩
  decide

/-- An effective address in storage and one in the window, on either side of its first address; of the statements
ShiftsOfMemory, IncrementsOfMemory and StoresWriteTheEffectiveAddress. -/
theorem witness_effective_addresses :
    classify (effAddr (.absx 0x1FFE) { start with x := 1 }).1 = .plain ∧
      classify (effAddr (.absx 0x1FFF) { start with x := 1 }).1 ≠ .plain ∧
      classify (effAddr (.abs 0x4016) start).1 ≠ .plain ∧ classify (effAddr (.zp 0xFF) start).1 = .plain := by decide

/-- The last pixel of a tile, and a tile whose low plane is zero. -/
theorem witness_TilePixelCombinesTwoPlanes :
    (7 < 8) ∧ (tilePixel tiles 0 1 7 7).toNat = 2 ∧
      (memGet ([(0x0018, 0xFF)] : Memory) ((0 + 16 * (1 : Byte).toNat + 0) % 16384) = 0 ∧
        (tilePixel [(0x0018, 0xFF)] 0 1 0 0).toNat = 2) := by decide

/-- The frame's last pixel; the last record's rectangle, its corners in and the pixel past it out; no record opaque at a
pixel; and the last record alone opaque there. -/
theorem witness_PixelTakesTheLowestOpaqueSprite :
    (255 < 256 ∧ 239 < 240) ∧ (63 < 64 ∧
      let r := spriteAt (scene (memOfBytes 252 [0x08, 0x02, 0x00, 0x10])) 63
      inSprite r 16 8 = true ∧ inSprite r 23 15 = true ∧ inSprite r 24 15 = false) ∧
    (∀ i ∈ List.range 64, spriteOpaque (scene []) i 16 8 = false) ∧
      (let q := scene (memOfBytes 252 [0x08, 0x02, 0x00, 0x10])
       spriteOpaque q 63 16 8 = true ∧ ∀ j ∈ List.range 63, spriteOpaque q j 16 8 = false) := by decide

/-- Both sides of the sprite-zero test, and an OAM that agrees on record 0 alone. -/
theorem witness_SpriteZeroHitIsAnOverlapInTheFrame :
    spriteZeroHit (scene (memOfBytes 0 [0x08, 0x02, 0x00, 0x10])) = true ∧ spriteZeroHit (scene []) = false ∧
      (∀ n ∈ List.range 4, memGet ([(4, 0x08)] : Memory) n = memGet (scene []).oam n) := by decide

theorem witness_RenderWritesEveryPixel : start.phase = .idle ∧ (255 < 256 ∧ 239 < 240) := by decide

theorem witness_VBlankStepsFollowRender :
    { start with cpuLeft := 0 }.cpuLeft = 0 ∧ start.phase = .idle ∧ (compositorCycle start).phase = .rendered ∧
      (compositorCycle (compositorCycle start)).phase = .inVBlank := ⟨rfl, rfl, rfl, rfl⟩

/-- Two states that agree on what a picture depends on and differ elsewhere. -/
theorem witness_PictureDependsOnTheSnapshotAlone :
    let t := { start with a := 1, scrollx := 8, ppumask := 0x1E, ppuctrl := 0xE7, mirroring := .vertical }
    (∀ n, n < 16384 → memGet start.ppuMem n = memGet t.ppuMem n) ∧ (∀ n, n < 256 → memGet start.oam n = memGet t.oam n) ∧
      start.ppuctrl.getLsbD 3 = t.ppuctrl.getLsbD 3 ∧ start.ppuctrl.getLsbD 4 = t.ppuctrl.getLsbD 4 ∧ start ≠ t :=
  ⟨fun _ _ => rfl, fun _ _ => rfl, by decide, by decide, fun h => absurd (congrArg State.a h) (by decide)⟩

theorem witness_VBlankLastsTheGuaranteedCpuSteps :
    let s := { start with phase := .rendered, cpuLeft := 0 }
    s.phase = .rendered ∧ s.cpuLeft = 0 ∧ 0 ≤ Config.vblankMinCpuSteps ∧
      Config.vblankMinCpuSteps ≤ Config.vblankMinCpuSteps := ⟨rfl, rfl, Nat.zero_le _, Nat.le_refl _⟩

/-- A CPU that is not halted, has no step left and is not yet due. -/
theorem witness_ScheduleIsWeaklyFair :
    let s := { start with cpuLeft := 0, compositorLeft := 1 }
    s.halted = none ∧ nextAgent s = .compositor := ⟨rfl, rfl⟩

/-- R356, R430: the CPU is due after this compositor step and moves next, whatever the draws are. -/
theorem test_due_cpu_moves :
    nextAgent (compositorStep { start with cpuLeft := 0, compositorLeft := 0 }) = .cpu := by
  have h : 0 < cpuBudget (compositorCycle { start with cpuLeft := 0, compositorLeft := 0 }) := cpuBudget_pos rfl
  have hh : (compositorStep { start with cpuLeft := 0, compositorLeft := 0 }).halted = none := rfl
  simp only [nextAgent, hh]
  exact if_neg (Nat.pos_iff_ne_zero.mp h)

/-- The operand forms that the statements range over: 111 of the 151 rows. -/
theorem witness_forms :
    [Mnemonic.adc, .sbc, .and, .ora, .eor, .asl, .lsr, .rol, .ror, .cmp, .cpx, .cpy, .inc, .dec, .lda, .ldx, .ldy, .sta,
      .stx, .sty, .bit].map (fun k => (formsOf k 0x12 0x1234).length) =
      [8, 8, 8, 8, 8, 4, 4, 4, 4, 8, 3, 3, 4, 4, 8, 5, 5, 7, 3, 3, 2] := by decide

theorem witness_NoInstructionDoesTheCompositorsWork : exec .nop start = .next { start with pc := 0x0201 } := rfl

end Sys2Proof.Tests
end

section
/-! PROOF. The stack operations as numbers (10_state.md, R11 and R38): the cell S names, the decrement and the
increment modulo 256, and a pull that undoes a push. -/

namespace Sys2Proof.Machine

/-- R11: S counts down modulo 256, so from 0 to 255. -/
theorem byte_sub_one_toNat (b : Byte) : (b - 1).toNat = (b.toNat + 255) % 256 := by
  rw [BitVec.toNat_sub, Nat.add_comm]; rfl

/-- R11: a pull reads the cell of the incremented S, in the same page even when S wraps. -/
theorem stackAddr_succ_toNat (sp : Byte) : (stackAddr (sp + 1)).toNat = 256 + (sp.toNat + 1) % 256 := by
  rw [stackAddr_toNat, BitVec.toNat_add]; rfl

/-- R11, R38: the CPU memory after a push, cell by cell. -/
theorem memGet_push (v : Byte) (s : State) (n : Nat) :
    memGet (push v s).cpuMem n = if n = 256 + s.sp.toNat then v else memGet s.cpuMem n := by
  rw [push_eq, memGet_memSet, stackAddr_toNat]

/-- R11: a pull right after a push gives the byte back, and S as it was. -/
theorem pull_push (v : Byte) (s : State) : pull (push v s) = (v, { push v s with sp := s.sp }) := by
  have hsp : (push v s).sp + 1 = s.sp := by rw [push_eq, BitVec.sub_add_cancel]
  have hbyte : memGet (push v s).cpuMem (stackAddr s.sp).toNat = v := by rw [push_eq, memGet_memSet_same]
  rw [pull_eq, hsp, hbyte]

/-- Settles O25: each clause is the equation of a push or of a pull, read as numbers. -/
theorem pushAndPull : Obligations.PushAndPull := by
  intro v s
  refine ⟨?_, ?_, memGet_push v s, ?_, ?_, pull_push v s⟩
  · rw [push_eq]
  · rw [push_eq, byte_sub_one_toNat]
  · rw [pull_eq, stackAddr_succ_toNat]
  · rw [pull_eq]

end Sys2Proof.Machine
end

section
/-! PROOF. The classes of CPU addresses by number (20_memory.md, R63): the window's register is the one listed at the
address modulo 8, and the port is one address. -/

namespace Sys2Proof.Machine

/-- R271: the registers of the PPU window in the order of their offsets. -/
def ppuRegsByOffset : List PpuReg :=
  [.control, .mask, .status, .oamAddr, .oamData, .scroll, .vramAddr, .vramData]

/-- R270: a window address reaches the register listed at its offset, whatever its mirror. -/
theorem ppuRegAt_eq_getD (a : Word) : ppuRegAt a = ppuRegsByOffset.getD (a.toNat % 8) .control := by
  have hlt : a.toNat % 8 < 8 := Nat.mod_lt _ (by decide)
  unfold ppuRegAt
  generalize a.toNat % 8 = k at hlt ⊢
  interval_cases k <;> rfl

/-- R63: the controller port by the number of its address. -/
theorem classify_controller {a : Word} (h : a.toNat = 0x4016) : classify a = .controller := by
  have ha : a = 0x4016 := BitVec.eq_of_toNat_eq h
  rw [ha, classify_port]

/-- Settles O16: the window, the port and the rest, each by its own lemma on `classify`. -/
theorem addressClasses : Obligations.AddressClasses := by
  intro a
  refine ⟨fun ⟨hlo, hhi⟩ => ?_, classify_controller, fun hout hport => ?_⟩
  · rw [classify_window hlo hhi, ppuRegAt_eq_getD, ppuRegsByOffset]
  · have hsides : a.toNat < 0x2000 ∨ 0x3FFF < a.toNat := by omega
    exact classify_plain hsides hport

end Sys2Proof.Machine
end

section
/-! PROOF. The encoding (30_encoding.md): the opcode table and the encoder agree entry by entry, every instruction
stands in the table, and the decoder reads exactly an opcode byte and the operand bytes of its format. -/

namespace Sys2Proof

open Machine

/-! The three formats of R102 as one: an entry makes an instruction of an operand byte `b` and an operand word `w`, of
which it uses at most one, and writes the bytes of the one it uses. -/

/-- R102: the instruction that a table entry makes of its operand. -/
def Format.make (b : Byte) (w : Word) : Format → Instr
  | .f1 i => i
  | .f2 mk => mk b
  | .f3 mk => mk w

/-- R102, R106: the bytes of the operand, as they follow the opcode. -/
def Format.operandBytes (b : Byte) (w : Word) : Format → List Byte
  | .f1 _ => []
  | .f2 _ => [b]
  | .f3 _ => wordBytes w

/-- R101: how many operand bytes follow the opcode. -/
def Format.operandCount : Format → Nat
  | .f1 _ => 0
  | .f2 _ => 1
  | .f3 _ => 2

@[simp] theorem Format.length_operandBytes (fmt : Format) (b : Byte) (w : Word) :
    (fmt.operandBytes b w).length = fmt.operandCount := by
  cases fmt <;> rfl

theorem Format.operandCount_le_two (fmt : Format) : fmt.operandCount ≤ 2 := by
  cases fmt <;> simp [Format.operandCount]

/-- R106: two bytes are the bytes of the word they make. -/
@[simp] theorem wordBytes_word (b1 b2 : Byte) : wordBytes (word b1 b2) = [b1, b2] := by
  rw [wordBytes, lowByte_word, highByte_word]

/-! The decoder, forward and backward. -/

/-- R113, R381: an opcode byte without an entry is rejected whatever follows. -/
theorem decode_of_formatOf_none {op : Byte} (h : formatOf op = none) (rest : List Byte) :
    decode (op :: rest) = .unknownOpcode op := by
  simp only [decode, h]

/-- R100, R102: the decoder reads an opcode's operand bytes, whatever follows, as the entry's instruction. -/
theorem decode_operandBytes {op : Byte} {fmt : Format} (h : formatOf op = some fmt) (b : Byte) (w : Word)
    (rest : List Byte) : decode (op :: (fmt.operandBytes b w ++ rest)) = .instr (fmt.make b w) rest := by
  cases fmt with
  | f1 i => exact decode_f1 h rest
  | f2 mk => exact decode_f2 h b rest
  | f3 mk => exact decode_f3_wordBytes h w rest

/-- R100, R102: all that an instruction answered by the decoder can be. -/
theorem decode_eq_instr {op : Byte} {tail rest : List Byte} {i : Instr} (h : decode (op :: tail) = .instr i rest) :
    ∃ fmt b w, formatOf op = some fmt ∧ i = fmt.make b w ∧ tail = fmt.operandBytes b w ++ rest := by
  cases hop : formatOf op with
  | none =>
    rw [decode_of_formatOf_none hop] at h
    contradiction
  | some fmt =>
    match fmt, tail, h, hop with
    | .f1 _, _, h, hop =>
      rw [decode_f1 hop] at h
      cases h
      exact ⟨.f1 i, 0, 0, rfl, rfl, rfl⟩
    | .f2 mk, [], h, hop | .f3 mk, [], h, hop | .f3 mk, [_], h, hop =>
      simp [decode, hop] at h
    | .f2 mk, b :: _, h, hop =>
      rw [decode_f2 hop] at h
      cases h
      exact ⟨.f2 mk, b, 0, rfl, rfl, rfl⟩
    | .f3 mk, b1 :: b2 :: _, h, hop =>
      rw [decode_f3 hop] at h
      cases h
      exact ⟨.f3 mk, 0, word b1 b2, rfl, rfl, by rw [Format.operandBytes, wordBytes_word]; rfl⟩

/-! The table and the encoder. -/

/-- R104, R111: under each of the 256 opcode bytes, an entry's instruction is encoded as that byte and its operand. -/
theorem map_encode_formatOf (op b : Byte) (w : Word) :
    (formatOf op).map (fun fmt => encode (fmt.make b w)) =
      (formatOf op).map (fun fmt => op :: fmt.operandBytes b w) := by
  obtain ⟨n, hn, rfl⟩ : ∃ n < 256, op = BitVec.ofNat 8 n := ⟨op.toNat, op.isLt, by simp⟩
  interval_cases n <;> rfl

theorem encode_make {op : Byte} {fmt : Format} (h : formatOf op = some fmt) (b : Byte) (w : Word) :
    encode (fmt.make b w) = op :: fmt.operandBytes b w := by
  have hrow := map_encode_formatOf op b w
  rw [h] at hrow
  exact Option.some.inj hrow

/-- R102, R111: every instruction is made by the entry of the opcode it is encoded with: format F1 without operand, F2
of one byte, F3 of a word. -/
theorem exists_entry (i : Instr) :
    ∃ op fmt b w, formatOf op = some fmt ∧ i = fmt.make b w ∧ encode i = op :: fmt.operandBytes b w := by
  cases i with
  | aslAcc | lsrAcc | rolAcc | rorAcc | rts | brk | rti | inx | dex | iny | dey | tax | tay | txa | tya | tsx | txs
  | pha | pla | php | plp | clc | sec | cli | sei | cld | sed | clv | nop => exact ⟨_, .f1 _, 0, 0, rfl, rfl, rfl⟩
  | adcImm b | adcZp b | adcZpx b | adcIndx b | adcIndy b | sbcImm b | sbcZp b | sbcZpx b | sbcIndx b | sbcIndy b
  | andImm b | andZp b | andZpx b | andIndx b | andIndy b | oraImm b | oraZp b | oraZpx b | oraIndx b | oraIndy b
  | eorImm b | eorZp b | eorZpx b | eorIndx b | eorIndy b | aslZp b | aslZpx b | lsrZp b | lsrZpx b | rolZp b
  | rolZpx b | rorZp b | rorZpx b | bcc b | bcs b | beq b | bne b | bvc b | bvs b | bpl b | bmi b | cmpImm b | cmpZp b
  | cmpZpx b | cmpIndx b | cmpIndy b | cpxImm b | cpxZp b | cpyImm b | cpyZp b | incZp b | incZpx b | decZp b
  | decZpx b | ldaImm b | ldaZp b | ldaZpx b | ldaIndx b | ldaIndy b | ldxImm b | ldxZp b | ldxZpy b | ldyImm b
  | ldyZp b | ldyZpx b | staZp b | staZpx b | staIndx b | staIndy b | stxZp b | stxZpy b | styZp b | styZpx b
  | bitZp b => exact ⟨_, .f2 _, b, 0, rfl, rfl, rfl⟩
  | adcAbs w | adcAbsx w | adcAbsy w | sbcAbs w | sbcAbsx w | sbcAbsy w | andAbs w | andAbsx w | andAbsy w | oraAbs w
  | oraAbsx w | oraAbsy w | eorAbs w | eorAbsx w | eorAbsy w | aslAbs w | aslAbsx w | lsrAbs w | lsrAbsx w | rolAbs w
  | rolAbsx w | rorAbs w | rorAbsx w | jmpAbs w | jmpInd w | jsr w | cmpAbs w | cmpAbsx w | cmpAbsy w | cpxAbs w
  | cpyAbs w | incAbs w | incAbsx w | decAbs w | decAbsx w | ldaAbs w | ldaAbsx w | ldaAbsy w | ldxAbs w | ldxAbsy w
  | ldyAbs w | ldyAbsx w | staAbs w | staAbsx w | staAbsy w | stxAbs w | styAbs w | bitAbs w =>
    exact ⟨_, .f3 _, 0, w, rfl, rfl, rfl⟩

/-- R101, R103: the length that an instruction's mode gives it is that of its encoding. -/
theorem length_encode (i : Instr) : (encode i).length = i.length := by
  cases i <;> rfl

/-- R101: the length of an entry's instruction, whatever its operand. -/
theorem length_make {op : Byte} {fmt : Format} (h : formatOf op = some fmt) (b : Byte) (w : Word) :
    (fmt.make b w).length = fmt.operandCount + 1 := by
  rw [← length_encode, encode_make h, List.length_cons, Format.length_operandBytes]

/-- R113: the undefined bytes are, in ascending order, the bytes without an entry. -/
theorem undefinedOpcodes_eq_filter :
    undefinedOpcodes = ((List.finRange 256).map BitVec.ofFin).filter fun op => (formatOf op).isNone := by
  decide

theorem mem_undefinedOpcodes_iff (op : Byte) : op ∈ undefinedOpcodes ↔ formatOf op = none := by
  have hmem : op ∈ (List.finRange 256).map BitVec.ofFin := List.mem_map.mpr ⟨op.toFin, List.mem_finRange _, rfl⟩
  rw [undefinedOpcodes_eq_filter, List.mem_filter, and_iff_right hmem, Option.isNone_iff_eq_none]

theorem nodup_undefinedOpcodes : undefinedOpcodes.Nodup := by
  rw [undefinedOpcodes_eq_filter]
  exact ((List.nodup_finRange 256).map fun _ _ => BitVec.ofFin.inj).filter _

/-- R115: an opcode byte with an entry decodes with any two bytes after it. -/
theorem exists_decode_of_formatOf {op : Byte} {fmt : Format} (h : formatOf op = some fmt) (b1 b2 : Byte)
    (rest : List Byte) : ∃ i left, decode (op :: b1 :: b2 :: rest) = .instr i left := by
  cases fmt with
  | f1 i => exact ⟨_, _, decode_f1 h _⟩
  | f2 mk => exact ⟨_, _, decode_f2 h _ _⟩
  | f3 mk => exact ⟨_, _, decode_f3 h _ _ _⟩

/-! The obligations. -/

/-- Settles O1: the instruction stands in the table under its own opcode, and the decoder reads the entry's bytes. -/
theorem decodeOfEncodeIsTheInstruction : Obligations.DecodeOfEncodeIsTheInstruction := by
  intro i rest
  obtain ⟨op, fmt, b, w, hop, rfl, hbytes⟩ := exists_entry i
  rw [hbytes, List.cons_append, decode_operandBytes hop]

/-- Settles O2: the decoder's bytes are an opcode and its operand bytes, which is how the entry is encoded. -/
theorem decodedBytesAreTheEncoding : Obligations.DecodedBytesAreTheEncoding := by
  intro bytes i rest h
  cases bytes with
  | nil => contradiction
  | cons op tail =>
    obtain ⟨fmt, b, w, hop, rfl, rfl⟩ := decode_eq_instr h
    rw [encode_make hop, List.cons_append]

/-- Settles O3: the listed bytes are those without an entry, and an entry asks for at most two operand bytes. -/
theorem undefinedBytesAreRejected : Obligations.UndefinedBytesAreRejected := by
  refine ⟨rfl, nodup_undefinedOpcodes, fun op rest hmem => ?_, fun op b1 b2 rest hmem => ?_⟩
  · exact decode_of_formatOf_none ((mem_undefinedOpcodes_iff op).mp hmem) rest
  · rw [mem_undefinedOpcodes_iff] at hmem
    obtain ⟨fmt, hop⟩ := Option.ne_none_iff_exists'.mp hmem
    exact exists_decode_of_formatOf hop b1 b2 rest

/-- Settles O5: both instructions come of the one entry of the opcode byte, which fixes how many bytes follow. -/
theorem opcodeFixesTheLength : Obligations.OpcodeFixesTheLength := by
  intro op r₁ r₂ left₁ left₂ i₁ i₂ h₁ h₂
  obtain ⟨fmt, b₁, w₁, hop, rfl, rfl⟩ := decode_eq_instr h₁
  obtain ⟨fmt', b₂, w₂, hop', rfl, rfl⟩ := decode_eq_instr h₂
  obtain rfl : fmt = fmt' := Option.some.inj (hop.symm.trans hop')
  have hcount := fmt.operandCount_le_two
  rw [length_make hop, length_make hop, List.length_cons, List.length_append, Format.length_operandBytes]
  omega

/-- Settles O4: each word by the format of its opcode's entry. -/
theorem workedWordsDecode : Obligations.WorkedWordsDecode :=
  ⟨decode_f1 rfl _, decode_f2 rfl _ _, decode_f3 rfl _ _ _, decode_f3 rfl _ _ _, decode_f1 rfl _, decode_f2 rfl _ _,
    decode_f2 rfl _ _, decode_f1 rfl _, decode_f2 rfl _ _, decode_f3 rfl _ _ _, decode_f2 rfl _ _, decode_f1 rfl _⟩

end Sys2Proof
end

section
/-! PROOF. The addressing modes as numbers (40_addressing.md): an index is added modulo 256 within page 0 and modulo
65536 elsewhere, and a pointer's two bytes both come from page 0. That resolving changes no state is
`effAddr_state`. -/

namespace Sys2Proof.Machine

/-- R8: a zero-extended byte keeps its number. -/
theorem zext16_toNat (b : Byte) : (zext16 b).toNat = b.toNat :=
  BitVec.toNat_setWidth_of_le (by decide)

/-- R135, R136: an index added to a zero-page address stays in page 0. -/
theorem zext16_add_toNat (b i : Byte) : (zext16 (b + i)).toNat = (b.toNat + i.toNat) % 256 := by
  rw [zext16_toNat, BitVec.toNat_add]

/-- R138, R139, R142: an index added to a word wraps at the end of the address space. -/
theorem add_zext16_toNat (w : Word) (i : Byte) : (w + zext16 i).toNat = (w.toNat + i.toNat) % 65536 := by
  rw [BitVec.toNat_add, zext16_toNat]

/-- R141, R142: the word at a zero-page pointer, its high byte from the start of page 0 when the pointer is 255. -/
theorem zeroPageWord_toNat (b : Byte) (s : State) :
    (zeroPageWord b s).1.toNat =
      256 * (memGet s.cpuMem ((b.toNat + 1) % 256)).toNat + (memGet s.cpuMem b.toNat).toNat := by
  have hhi : (zext16 (b + 1)).toNat = (b.toNat + 1) % 256 := zext16_add_toNat b 1
  rw [zeroPageWord_eq, word_toNat, hhi, zext16_toNat, Nat.mul_comm]

/-- Settles O27: (zp,X) adds its index to the pointer, (zp),Y to the word found there. -/
theorem zeroPagePointers : Obligations.ZeroPagePointers := by
  intro b s
  refine ⟨?_, ?_, effAddr_state _ s, effAddr_state _ s, rfl, rfl⟩
  · rw [effAddr, zeroPageWord_toNat, BitVec.toNat_add]
  · rw [effAddr, add_zext16_toNat, zeroPageWord_toNat]

/-- R144: the modes with one operand byte. -/
theorem operandLen_byte {o : Operand} {b : Byte} (h : o ∈ [Operand.imm b, .zp b, .zpx b, .zpy b]) :
    operandLen o = 2 := by
  simp only [List.mem_cons, List.not_mem_nil, or_false] at h
  obtain rfl | rfl | rfl | rfl := h <;> rfl

/-- R144: the modes with an operand word. -/
theorem operandLen_word {o : Operand} {w : Word} (h : o ∈ [Operand.abs w, .absx w, .absy w]) :
    operandLen o = 3 := by
  simp only [List.mem_cons, List.not_mem_nil, or_false] at h
  obtain rfl | rfl | rfl := h <;> rfl

/-- Settles O26: each address by the rule of its index addition, and the state by `effAddr_state`. -/
theorem directAddressingModes : Obligations.DirectAddressingModes := by
  intro b w s
  have himm : (effAddr (.imm b) s).1.toNat = (s.pc.toNat + 1) % 65536 := BitVec.toNat_add s.pc 1
  exact ⟨⟨rfl, himm⟩, zext16_toNat b, zext16_add_toNat b s.x, zext16_add_toNat b s.y, rfl, add_zext16_toNat w s.x,
    add_zext16_toNat w s.y, fun o ho => ⟨operandLen_byte ho, effAddr_state o s⟩,
    fun o ho => ⟨operandLen_word ho, effAddr_state o s⟩⟩

end Sys2Proof.Machine
end

section
/-! PROOF. The forms that name a data byte, and what they leave: every form of `formsOf` is the entry of its opcode, and
the three memories read as before when the state's memories are the same. -/

namespace Sys2Proof.Machine

/-- R111: the entry of each form's opcode makes the form's instruction and has its operand bytes. -/
theorem entry_of_mem_formsOf (k : Mnemonic) (b : Byte) (w : Word) : ∀ f ∈ formsOf k b w,
    (formatOf f.opcode).map (fun fmt => (fmt.make b w, fmt.operandBytes b w)) =
      some (f.instr, operandBytes f.operand) :=
  List.map_inj_left.mp (by cases k <;> simp only [formsOf, List.map] <;> rfl)

/-- R102, R111: every form decodes to its instruction. -/
theorem encodes_of_mem_formsOf {k : Mnemonic} {b : Byte} {w : Word} {f : Form} (hf : f ∈ formsOf k b w) :
    f.Encodes := by
  intro rest
  obtain ⟨fmt, hop, hentry⟩ := Option.map_eq_some_iff.mp (entry_of_mem_formsOf k b w f hf)
  obtain ⟨hinstr, hbytes⟩ := Prod.mk.inj hentry
  rw [← hinstr, ← hbytes, decode_operandBytes hop]

theorem memoryKept_of_eq {s t : State} (hcpu : t.cpuMem = s.cpuMem) (hppu : t.ppuMem = s.ppuMem)
    (hoam : t.oam = s.oam) : MemoryKept s t := by
  simp only [MemoryKept, hcpu, hppu, hoam, implies_true, and_self]

end Sys2Proof.Machine
end

section
/-! PROOF. The arithmetic and logical instructions (41_arithmetic_logical.md): the laws of `accumulate`, the shape the
five share, and of the functions of bytes that tell them apart. -/

namespace Sys2Proof.Machine

/-! The shared shape. -/

section
variable (o : Operand) (g : Byte → Byte → Byte → Byte × Byte) (s : State)

/-- R150 to R155: the operand is read, A and P are written from the values before, PC is advanced. -/
theorem accumulate_eq : accumulate o g s = { (readOperand o s).2 with
    a := (g s.a (readOperand o s).1 s.p).1, p := (g s.a (readOperand o s).1 s.p).2, pc := s.pc + operandLen o } := by
  simp only [accumulate, withOperand, advance, readOperand_a, readOperand_p, readOperand_pc]

@[simp] theorem accumulate_a : (accumulate o g s).a = (g s.a (readOperand o s).1 s.p).1 := by rw [accumulate_eq]

@[simp] theorem accumulate_p : (accumulate o g s).p = (g s.a (readOperand o s).1 s.p).2 := by rw [accumulate_eq]

/-- R14, R26: the frame: the flags that the function of bytes keeps, the memories, and all of the state but A and P
as the read of the operand left it, with PC advanced. -/
theorem accumulate_keeps {written : List Flag}
    (hkept : ∀ a m p f, f ∉ written → flagOf f (g a m p).2 = flagOf f p) :
    FlagsKept written s (accumulate o g s) ∧ MemoryKept s (accumulate o g s) ∧
      accumulate o g s = { (readOperand o s).2 with
        a := (accumulate o g s).a, p := (accumulate o g s).p, pc := s.pc + operandLen o } := by
  refine ⟨fun f hf => ?_, ?_, ?_⟩
  · rw [accumulate_p, hkept _ _ _ _ hf]
  · rw [accumulate_eq]
    exact memoryKept_of_eq (readOperand_cpuMem o s) (readOperand_ppuMem o s) (readOperand_oam o s)
  · rw [accumulate_a, accumulate_p, accumulate_eq]

end

/-- R150 to R155: the five mnemonics and what each makes of A, M and P. -/
def accumulators : List (Mnemonic × (Byte → Byte → Byte → Byte × Byte)) :=
  [(.adc, adcByte), (.sbc, sbcByte), (.and, andByte), (.ora, oraByte), (.eor, eorByte)]

/-- R150 to R155: every form of the five accumulates its own operand. -/
theorem exec_accumulators {k : Mnemonic} {g : Byte → Byte → Byte → Byte × Byte} (hk : (k, g) ∈ accumulators)
    (b : Byte) (w : Word) (s : State) :
    ∀ f ∈ formsOf k b w, exec f.instr s = .next (accumulate f.operand g s) := by
  refine List.map_inj_left.mp ?_
  simp only [accumulators, List.mem_cons, List.not_mem_nil, or_false, Prod.mk.injEq] at hk
  obtain ⟨rfl, rfl⟩ | ⟨rfl, rfl⟩ | ⟨rfl, rfl⟩ | ⟨rfl, rfl⟩ | ⟨rfl, rfl⟩ := hk <;> rfl

/-! `SetZN`, flag by flag. -/

theorem flagOf_z_withZN (v p : Byte) : flagOf .z (withZN v p) = (v == 0) := by
  rw [flagOf_withZN, if_neg (by decide), if_pos rfl]

theorem flagOf_n_withZN (v p : Byte) : flagOf .n (withZN v p) = v.msb := by
  rw [flagOf_withZN, if_pos rfl]

theorem flagOf_withZN_of_notMem (v p : Byte) (f : Flag) (hf : f ∉ [Flag.z, .n]) :
    flagOf f (withZN v p) = flagOf f p := by
  simp only [List.mem_cons, List.not_mem_nil, or_false, not_or] at hf
  obtain ⟨hz, hn⟩ := hf
  rw [flagOf_withZN, if_neg hn, if_neg hz]

/-! ADC as numbers and flags. -/

section
variable (a m p : Byte)

theorem adcByte_toNat : (adcByte a m p).1.toNat = (a.toNat + m.toNat + (flagOf .c p).toNat) % 256 :=
  addCarry_low a m (flagOf .c p)

/-- R150: C is the carry out of bit 7. -/
theorem flagOf_c_adcByte :
    flagOf .c (adcByte a m p).2 = decide (256 ≤ a.toNat + m.toNat + (flagOf .c p).toNat) := by
  simp [adcByte, flagOf_withZN, flagOf_withFlag, addCarry_msb]

/-- R150: V is signed overflow. -/
theorem flagOf_v_adcByte :
    flagOf .v (adcByte a m p).2 = (a.msb == m.msb && (adcByte a m p).1.msb != a.msb) := by
  simp [adcByte, flagOf_withZN]

theorem flagOf_z_adcByte : flagOf .z (adcByte a m p).2 = ((adcByte a m p).1 == 0) :=
  flagOf_z_withZN _ _

theorem flagOf_n_adcByte : flagOf .n (adcByte a m p).2 = (adcByte a m p).1.msb :=
  flagOf_n_withZN _ _

theorem flagOf_adcByte_of_notMem (f : Flag) (hf : f ∉ [Flag.c, .v, .z, .n]) :
    flagOf f (adcByte a m p).2 = flagOf f p := by
  simp only [List.mem_cons, List.not_mem_nil, or_false, not_or] at hf
  obtain ⟨hc, hv, hz, hn⟩ := hf
  simp only [adcByte, flagOf_withZN, flagOf_withFlag, hc, hv, hz, hn, if_false]

/-! SBC, which adds the complement (R151): the same flags, read as a difference. -/

theorem sbcByte_eq_adcByte : sbcByte a m p = adcByte a (m ^^^ 0xFF) p := rfl

/-- R151: adding the complement and C is subtracting M and the borrow. -/
theorem sbcByte_toNat :
    (sbcByte a m p).1.toNat = (a.toNat + 256 - m.toNat + 256 - (1 - (flagOf .c p).toNat)) % 256 := by
  have hm : m.toNat < 256 := m.isLt
  have hc : (flagOf .c p).toNat ≤ 1 := Bool.toNat_le _
  rw [sbcByte_eq_adcByte, adcByte_toNat, complement_toNat]
  omega

/-- R151: C is 1 exactly when no borrow occurred. -/
theorem flagOf_c_sbcByte :
    flagOf .c (sbcByte a m p).2 = decide (m.toNat + (1 - (flagOf .c p).toNat) ≤ a.toNat) := by
  have hm : m.toNat < 256 := m.isLt
  have hc : (flagOf .c p).toNat ≤ 1 := Bool.toNat_le _
  rw [sbcByte_eq_adcByte, flagOf_c_adcByte, complement_toNat, decide_eq_decide]
  omega

theorem complement_msb : (m ^^^ 0xFF).msb = !m.msb := by
  rw [BitVec.msb_xor]
  exact Bool.xor_true m.msb

/-- R151: V when the signs of A and M differ and the result's differs from A's. -/
theorem flagOf_v_sbcByte :
    flagOf .v (sbcByte a m p).2 = (a.msb != m.msb && (sbcByte a m p).1.msb != a.msb) := by
  have hsign : (a.msb == (m ^^^ 0xFF).msb) = (a.msb != m.msb) := by
    rw [complement_msb]
    cases a.msb <;> cases m.msb <;> rfl
  rw [sbcByte_eq_adcByte, flagOf_v_adcByte, hsign]

end

/-! The obligations. -/

/-- Settles O28: `exec` is `accumulate` with `adcByte`; the values are the laws of `adcByte`, the rest the frame of
`accumulate`. -/
theorem adcAddsWithCarry : Obligations.AdcAddsWithCarry := by
  intro b w s f hf
  refine ⟨encodes_of_mem_formsOf hf, accumulate f.operand adcByte s, ?_, ?_, ?_, ?_, ?_, ?_, ?_⟩
  · exact exec_accumulators (by simp [accumulators]) b w s f hf
  · rw [accumulate_a, adcByte_toNat]
  · rw [accumulate_p, flagOf_c_adcByte]
  · rw [accumulate_p, accumulate_a, flagOf_v_adcByte]
  · rw [accumulate_p, accumulate_a, flagOf_z_adcByte]
  · rw [accumulate_p, accumulate_a, flagOf_n_adcByte]
  · exact accumulate_keeps _ _ _ flagOf_adcByte_of_notMem

/-- Settles O29: as O28, with the sum of A and the complement read as a difference. -/
theorem sbcSubtractsWithBorrow : Obligations.SbcSubtractsWithBorrow := by
  intro b w s f hf
  refine ⟨encodes_of_mem_formsOf hf, accumulate f.operand sbcByte s, ?_, ?_, ?_, ?_, ?_, ?_, ?_⟩
  · exact exec_accumulators (by simp [accumulators]) b w s f hf
  · rw [accumulate_a, sbcByte_toNat]
  · rw [accumulate_p, flagOf_c_sbcByte]
  · rw [accumulate_p, accumulate_a, flagOf_v_sbcByte]
  · rw [accumulate_p, accumulate_a, sbcByte_eq_adcByte, flagOf_z_adcByte]
  · rw [accumulate_p, accumulate_a, sbcByte_eq_adcByte, flagOf_n_adcByte]
  · exact accumulate_keeps _ _ _ fun a m p => flagOf_adcByte_of_notMem a (m ^^^ 0xFF) p

/-- R153 to R155: the functions of bytes of the three logical instructions, each an operator and `SetZN`. -/
theorem exists_logicByte {e : Mnemonic × (Byte → Byte → Byte)}
    (he : e ∈ [(Mnemonic.and, fun x y : Byte => x &&& y), (.ora, fun x y => x ||| y), (.eor, fun x y => x ^^^ y)]) :
    ∃ g, (e.1, g) ∈ accumulators ∧ ∀ a m p, g a m p = (e.2 a m, withZN (e.2 a m) p) := by
  simp only [List.mem_cons, List.not_mem_nil, or_false] at he
  obtain rfl | rfl | rfl := he
  · exact ⟨andByte, by simp [accumulators], fun _ _ _ => rfl⟩
  · exact ⟨oraByte, by simp [accumulators], fun _ _ _ => rfl⟩
  · exact ⟨eorByte, by simp [accumulators], fun _ _ _ => rfl⟩

/-- Settles O30: the three are one function of bytes but for the operator, whose flags are those of `SetZN`. -/
theorem logicCombinesWithTheAccumulator : Obligations.LogicCombinesWithTheAccumulator := by
  intro b w s e he f hf
  obtain ⟨g, hk, hg⟩ := exists_logicByte he
  refine ⟨encodes_of_mem_formsOf hf, accumulate f.operand g s, exec_accumulators hk b w s f hf, ?_, ?_, ?_, ?_⟩
  · rw [accumulate_a, hg]
  · rw [accumulate_p, accumulate_a, hg, flagOf_z_withZN]
  · rw [accumulate_p, accumulate_a, hg, flagOf_n_withZN]
  · exact accumulate_keeps _ _ _ fun a m p => by rw [hg]; exact flagOf_withZN_of_notMem _ p

end Sys2Proof.Machine
end

section
/-! PROOF. The eight branches (43_branches.md): they share one rule, `branch`, and differ in the flag and the value
`branchTest` names; the target is read as a number. -/

namespace Sys2Proof.Machine

/-- R8: a sign-extended byte as a number. -/
theorem sext16_toNat (d : Byte) : ((sext16 d).toNat : Int) = d.toInt % 65536 := by
  rw [sext16, BitVec.signExtend, BitVec.toNat_ofInt]
  exact Int.toNat_of_nonneg (Int.emod_nonneg _ (by decide))

/-- R140: the target of a branch wraps at both ends of the address space. -/
theorem branchTarget_toNat (pc : Word) (d : Byte) :
    ((branchTarget pc d).toNat : Int) = ((pc.toNat : Int) + 2 + d.toInt) % 65536 := by
  have hstep : (pc + 2).toNat = (pc.toNat + 2) % 65536 := BitVec.toNat_add pc 2
  have hsext : ((sext16 d).toNat : Int) = d.toInt % 65536 := sext16_toNat d
  rw [branchTarget, BitVec.toNat_add, hstep]
  omega

/-- R170: where a branch leaves PC, taken and not taken. -/
theorem branch_pc_toNat (cond : Bool) (d : Byte) (s : State) :
    ((branch cond d s).pc.toNat : Int) = ((s.pc.toNat : Int) + 2 + (if cond then d.toInt else 0)) % 65536 := by
  cases cond with
  | true => exact branchTarget_toNat s.pc d
  | false => simp [branch]

/-- R171 to R178: the eight branches with offset `d`, each with its mnemonic and its opcode byte. -/
def branches (d : Byte) : List (Mnemonic × Byte × Instr) :=
  [(.bcc, 0x90, .bcc d), (.bcs, 0xB0, .bcs d), (.beq, 0xF0, .beq d), (.bne, 0xD0, .bne d),
    (.bvc, 0x50, .bvc d), (.bvs, 0x70, .bvs d), (.bpl, 0x10, .bpl d), (.bmi, 0x30, .bmi d)]

/-- R102, R111: every branch is encoded as its opcode byte and its offset. -/
theorem encode_of_mem_branches (d : Byte) : ∀ e ∈ branches d, encode e.2.2 = [e.2.1, d] :=
  List.map_inj_left.mp rfl

/-- R171 to R178: every branch is the common rule with the test of its own flag. -/
theorem exec_of_mem_branches (d : Byte) (s : State) : ∀ e ∈ branches d,
    exec e.2.2 s = .next (branch (flagOf (branchTest e.1).1 s.p == (branchTest e.1).2) d s) :=
  List.map_inj_left.mp rfl

/-- Settles O33: decoding undoes the encoding, and `exec` is the common rule, which writes PC alone. -/
theorem branchesTestOneFlag : Obligations.BranchesTestOneFlag := by
  intro d s e he
  refine ⟨fun rest => ?_, _, exec_of_mem_branches d s e he, rfl, ?_⟩
  · have hdecode : decode (encode e.2.2 ++ rest) = .instr e.2.2 rest := decodeOfEncodeIsTheInstruction e.2.2 rest
    rwa [encode_of_mem_branches d e he] at hdecode
  · simp only [branch_pc_toNat, beq_iff_eq]

end Sys2Proof.Machine
end

section
/-! PROOF. Control transfer (44_control_transfer.md): the jumps, the word that JSR stacks, and trap entry. Where a cell
lies is said by `stackCell`; two stack cells are the same only at the same S, and none is a byte of the vector. -/

namespace Sys2Proof.Machine

/-! Words of two bytes. -/

/-- R7: a word by its number is the word of its two bytes. -/
theorem eq_word_of_toNat_eq {w : Word} {lo hi : Byte} (h : w.toNat = 256 * hi.toNat + lo.toNat) : w = word lo hi := by
  apply BitVec.eq_of_toNat_eq
  rw [word_toNat, h, Nat.mul_comm]

/-- R102, R106: an opcode of format F3 decodes with the word whose number its two operand bytes make. -/
theorem decode_f3_of_toNat_eq {op b1 b2 : Byte} {mk : Word → Instr} {w : Word} (hop : formatOf op = some (.f3 mk))
    (hw : w.toNat = 256 * b2.toNat + b1.toNat) (rest : List Byte) :
    decode (op :: b1 :: b2 :: rest) = .instr (mk w) rest := by
  rw [eq_word_of_toNat_eq hw, decode_f3 hop]

/-! JMP through a pointer. -/

/-- R143: the pointer's second byte lies in its own page. -/
theorem word_succ_eq_ofNat (lo hi : Byte) :
    word (lo + 1) hi = BitVec.ofNat 16 (256 * hi.toNat + (lo.toNat + 1) % 256) := by
  have hlo : (lo + 1).toNat = (lo.toNat + 1) % 256 := BitVec.toNat_add lo 1
  rw [← hlo, Nat.mul_comm, ← word_toNat, BitVec.ofNat_toNat, BitVec.setWidth_eq]

/-- R143, R79: the pointer's two reads keep the memories, whatever device they reach. -/
theorem jumpIndirect_memoryKept (ptr : Word) (s : State) : MemoryKept s (jumpIndirect ptr s) := by
  apply memoryKept_of_eq <;> simp [jumpIndirect, jumpTarget]

/-- Settles O34: `jumpIndirect` makes the two reads that the statement names, and PC is the word of their bytes. -/
theorem jumpsSetThePc : Obligations.JumpsSetThePc := by
  intro b1 b2 s w hw
  refine ⟨fun rest => ⟨decode_f3_of_toNat_eq rfl hw rest, decode_f3_of_toNat_eq rfl hw rest⟩, rfl, ?_⟩
  obtain rfl : w = word b1 b2 := eq_word_of_toNat_eq hw
  have hsecond : word (lowByte (word b1 b2) + 1) (highByte (word b1 b2)) =
      BitVec.ofNat 16 (256 * b2.toNat + (b1.toNat + 1) % 256) := by
    rw [lowByte_word, highByte_word, word_succ_eq_ofNat]
  refine ⟨jumpIndirect (word b1 b2) s, rfl, ?_, ?_, jumpIndirect_memoryKept _ s⟩
  · simp only [jumpIndirect, jumpTarget, hsecond]
  · simp only [jumpIndirect, jumpTarget, hsecond, word_toNat, Nat.mul_comm]

/-! The stack cells, and memories that differ in listed cells alone. -/

theorem memoryKeptBut_of_eq {stored : List Nat} {s t : State}
    (hcpu : ∀ n, n ∉ stored → memGet t.cpuMem n = memGet s.cpuMem n) (hppu : t.ppuMem = s.ppuMem)
    (hoam : t.oam = s.oam) : MemoryKeptBut stored s t :=
  ⟨hcpu, fun n => by rw [hppu], fun n => by rw [hoam]⟩

theorem stackCell_inj {p q : Byte} : stackCell p = stackCell q ↔ p = q := by
  rw [stackCell, stackCell, Nat.add_left_cancel_iff, BitVec.toNat_inj]

/-- R38: the stack page ends below 0x0200. -/
theorem stackCell_lt (sp : Byte) : stackCell sp < 512 := by
  have hsp : sp.toNat < 256 := sp.isLt
  rw [stackCell]
  omega

theorem memGet_push_same (v : Byte) (s : State) : memGet (push v s).cpuMem (stackCell s.sp) = v :=
  (memGet_push v s _).trans (if_pos rfl)

theorem memGet_push_other (v : Byte) {s : State} {n : Nat} (h : n ≠ stackCell s.sp) :
    memGet (push v s).cpuMem n = memGet s.cpuMem n :=
  (memGet_push v s n).trans (if_neg h)

/-! A word pushed (R187, R189). -/

section
variable (v : Word) (s : State)

theorem memGet_pushWord_high : memGet (pushWord v s).cpuMem (stackCell s.sp) = highByte v := by
  have hcell : stackCell s.sp ≠ stackCell (push (highByte v) s).sp := by
    rw [push_eq, Ne, stackCell_inj]
    bv_omega
  rw [pushWord, memGet_push_other _ hcell, memGet_push_same]

theorem memGet_pushWord_low : memGet (pushWord v s).cpuMem (stackCell (s.sp - 1)) = lowByte v := by
  have hsp : (push (highByte v) s).sp = s.sp - 1 := by rw [push_eq]
  rw [pushWord, ← hsp, memGet_push_same]

theorem memGet_pushWord_other {n : Nat} (hhi : n ≠ stackCell s.sp) (hlo : n ≠ stackCell (s.sp - 1)) :
    memGet (pushWord v s).cpuMem n = memGet s.cpuMem n := by
  have hcell : n ≠ stackCell (push (highByte v) s).sp := by rwa [push_eq]
  rw [pushWord, memGet_push_other _ hcell, memGet_push_other _ hhi]

/-- R187, R189: the two cells hold the word, its high byte at the higher S. -/
theorem stacked_pushWord_toNat :
    256 * (memGet (pushWord v s).cpuMem (stackCell s.sp)).toNat +
      (memGet (pushWord v s).cpuMem (stackCell (s.sp - 1))).toNat = v.toNat := by
  rw [memGet_pushWord_high, memGet_pushWord_low, highByte_toNat, lowByte_toNat, Nat.div_add_mod]

theorem pushWord_sp : (pushWord v s).sp = s.sp - 2 := by
  rw [pushWord_eq, BitVec.sub_sub]
  rfl

end

/-- R187: JSR changes the stack, S and PC and nothing else. -/
theorem jumpSubroutine_frame (w : Word) (s : State) :
    jumpSubroutine w s = { s with cpuMem := (jumpSubroutine w s).cpuMem, sp := s.sp - 2, pc := w } := by
  rw [jumpSubroutine, ← pushWord_sp (s.pc + 2), pushWord_eq]

/-- Settles O35: JSR is a push of the word PC + 2 and a write of PC. -/
theorem jsrPushesItsLastByteAddress : Obligations.JsrPushesItsLastByteAddress := by
  intro b1 b2 s w hw
  refine ⟨decode_f3_of_toNat_eq rfl hw, jumpSubroutine w s, rfl, jumpSubroutine_frame w s, ?_,
    memoryKeptBut_of_eq (fun n hn => ?_) ?_ ?_⟩
  · exact (stacked_pushWord_toNat (s.pc + 2) s).trans (BitVec.toNat_add s.pc 2)
  · simp only [List.mem_cons, List.not_mem_nil, or_false, not_or] at hn
    obtain ⟨hhi, hlo⟩ := hn
    exact memGet_pushWord_other (s.pc + 2) s hhi hlo
  · rw [jumpSubroutine_frame]
  · rw [jumpSubroutine_frame]

/-! Trap entry (R382). -/

section
variable (resume : Word) (s : State)

/-- R382: the status is stacked last, under the resume address. -/
theorem memGet_takeTrap_status :
    memGet (takeTrap resume irqVector s).cpuMem (stackCell (s.sp - 2)) = pushedStatus s.p := by
  rw [takeTrap_eq, ← pushWord_sp resume s, memGet_push_same]

theorem memGet_takeTrap_of_ne_status {n : Nat} (hp : n ≠ stackCell (s.sp - 2)) :
    memGet (takeTrap resume irqVector s).cpuMem n = memGet (pushWord resume s).cpuMem n := by
  rw [← pushWord_sp resume s] at hp
  rw [takeTrap_eq, memGet_push_other _ hp]

/-- R382: three cells are written and no other. -/
theorem memGet_takeTrap_other {n : Nat} (hhi : n ≠ stackCell s.sp) (hlo : n ≠ stackCell (s.sp - 1))
    (hp : n ≠ stackCell (s.sp - 2)) : memGet (takeTrap resume irqVector s).cpuMem n = memGet s.cpuMem n := by
  rw [memGet_takeTrap_of_ne_status resume s hp, memGet_pushWord_other resume s hhi hlo]

/-- R382: the status leaves the two cells of the resume address alone, though S may wrap. -/
theorem stacked_takeTrap_toNat :
    256 * (memGet (takeTrap resume irqVector s).cpuMem (stackCell s.sp)).toNat +
      (memGet (takeTrap resume irqVector s).cpuMem (stackCell (s.sp - 1))).toNat = resume.toNat := by
  have hhi : stackCell s.sp ≠ stackCell (s.sp - 2) := by
    rw [Ne, stackCell_inj]
    bv_omega
  have hlo : stackCell (s.sp - 1) ≠ stackCell (s.sp - 2) := by
    rw [Ne, stackCell_inj]
    bv_omega
  rw [memGet_takeTrap_of_ne_status resume s hhi, memGet_takeTrap_of_ne_status resume s hlo, stacked_pushWord_toNat]

/-- R382, R383: trap entry never stacks over a byte past the stack page, so not over its vector. -/
theorem memGet_takeTrap_of_le {n : Nat} (hn : 512 ≤ n) :
    memGet (takeTrap resume irqVector s).cpuMem n = memGet s.cpuMem n := by
  have hne (sp : Byte) : n ≠ stackCell sp := ((stackCell_lt sp).trans_le hn).ne'
  exact memGet_takeTrap_other resume s (hne _) (hne _) (hne _)

/-- R382, R383: PC is taken from the vector as it was before the pushes. -/
theorem takeTrap_pc :
    (takeTrap resume irqVector s).pc = word (memGet s.cpuMem 0xFFFE) (memGet s.cpuMem 0xFFFF) := by
  have hpc : (takeTrap resume irqVector s).pc = word (memGet (takeTrap resume irqVector s).cpuMem 0xFFFE)
      (memGet (takeTrap resume irqVector s).cpuMem 0xFFFF) := by rw [takeTrap_eq]
  rw [hpc, memGet_takeTrap_of_le resume s (by decide), memGet_takeTrap_of_le resume s (by decide)]

theorem takeTrap_p : (takeTrap resume irqVector s).p = withFlag .i true s.p := by
  rw [takeTrap_eq]

/-- R382: trap entry saves and changes nothing else. -/
theorem takeTrap_frame : takeTrap resume irqVector s = { s with
    cpuMem := (takeTrap resume irqVector s).cpuMem, sp := s.sp - 3, p := (takeTrap resume irqVector s).p,
    pc := (takeTrap resume irqVector s).pc } := by
  have hsp : s.sp - 3 = s.sp - 1 - 1 - 1 := by
    rw [BitVec.sub_sub, BitVec.sub_sub]
    rfl
  rw [hsp, takeTrap_eq]

end

/-- Settles O37: BRK is trap entry with the resume address PC + 2. -/
theorem brkTakesTheTrap : Obligations.BrkTakesTheTrap := by
  intro s
  refine ⟨decode_f1 rfl, takeTrap (s.pc + 2) irqVector s, rfl, takeTrap_frame _ s, ?_, memGet_takeTrap_status _ s,
    memoryKeptBut_of_eq (fun n hn => ?_) ?_ ?_, ?_, fun f hf => ?_, ?_⟩
  · exact (stacked_takeTrap_toNat (s.pc + 2) s).trans (BitVec.toNat_add s.pc 2)
  · simp only [List.mem_cons, List.not_mem_nil, or_false, not_or] at hn
    obtain ⟨hhi, hlo, hp⟩ := hn
    exact memGet_takeTrap_other (s.pc + 2) s hhi hlo hp
  · rw [takeTrap_frame]
  · rw [takeTrap_frame]
  · rw [takeTrap_p, flagOf_withFlag_same]
  · rw [takeTrap_p, flagOf_withFlag, if_neg (List.ne_of_not_mem_cons hf)]
  · rw [takeTrap_pc, word_toNat, Nat.mul_comm]

end Sys2Proof.Machine
end

section
/-! PROOF. Compare, increment and decrement (45_compare_incdec.md): the compare rule as a difference, the frame of a
read-modify-write, and what the increments and decrements share, in memory and in the index registers. -/

namespace Sys2Proof.Machine

/-! The compare rule. -/

section
variable (r m p : Byte)

/-- R203: the low eight bits of R plus the complement of M plus 1. -/
theorem addCarry_complement_low : (addCarry r (m ^^^ 0xFF) true).setWidth 8 = r - m := by
  have hm : m.toNat < 256 := m.isLt
  apply BitVec.eq_of_toNat_eq
  rw [addCarry_low, complement_toNat, BitVec.toNat_sub, Bool.toNat_true]
  omega

/-- R203: the ninth bit of the same sum. -/
theorem addCarry_complement_msb : (addCarry r (m ^^^ 0xFF) true).msb = decide (m.toNat ≤ r.toNat) := by
  have hm : m.toNat < 256 := m.isLt
  rw [addCarry_msb, complement_toNat, Bool.toNat_true, decide_eq_decide]
  omega

/-- R203: a compare sets C by the order of the two bytes, then Z and N by their difference. -/
theorem compareStatus_eq : compareStatus r m p = withZN (r - m) (withFlag .c (decide (m.toNat ≤ r.toNat)) p) := by
  rw [compareStatus, addCarry_complement_low, addCarry_complement_msb]

theorem flagOf_c_compareStatus : flagOf .c (compareStatus r m p) = decide (m.toNat ≤ r.toNat) := by
  rw [compareStatus_eq, flagOf_withZN_of_notMem _ _ _ (by decide), flagOf_withFlag_same]

/-- R203: the difference is 0 exactly when the bytes are equal. -/
theorem flagOf_z_compareStatus : flagOf .z (compareStatus r m p) = decide (r = m) := by
  rw [compareStatus_eq, flagOf_z_withZN, beq_eq_decide, decide_eq_decide]
  exact sub_eq_zero

theorem flagOf_n_compareStatus : flagOf .n (compareStatus r m p) = (r - m).msb := by
  rw [compareStatus_eq, flagOf_n_withZN]

theorem flagOf_compareStatus_of_notMem (f : Flag) (hf : f ∉ [Flag.c, .z, .n]) :
    flagOf f (compareStatus r m p) = flagOf f p := by
  obtain ⟨hc, hzn⟩ := List.ne_and_not_mem_of_not_mem_cons hf
  rw [compareStatus_eq, flagOf_withZN_of_notMem _ _ _ hzn, flagOf_withFlag, if_neg hc]

end

/-- R203: the operand is read, P is written, PC is advanced. -/
theorem compareWith_eq (o : Operand) (r : Byte) (s : State) : compareWith o r s = { (readOperand o s).2 with
    p := compareStatus r (readOperand o s).1 s.p, pc := s.pc + operandLen o } := by
  simp only [compareWith, withOperand, advance, readOperand_p, readOperand_pc]

/-- R200 to R202: every form of the three compares its own register with its own operand. -/
theorem exec_compares {k : Mnemonic} {r : Byte} {s : State}
    (hk : (k, r) ∈ [(Mnemonic.cmp, s.a), (.cpx, s.x), (.cpy, s.y)]) (b : Byte) (w : Word) :
    ∀ f ∈ formsOf k b w, exec f.instr s = .next (compareWith f.operand r s) := by
  refine List.map_inj_left.mp ?_
  simp only [List.mem_cons, List.not_mem_nil, or_false, Prod.mk.injEq] at hk
  obtain ⟨rfl, rfl⟩ | ⟨rfl, rfl⟩ | ⟨rfl, rfl⟩ := hk <;> rfl

/-- Settles O41: `exec` is `compareWith`, which writes `compareStatus` and PC after the read of the operand. -/
theorem comparesSetThreeFlags : Obligations.ComparesSetThreeFlags := by
  intro b w s e he f hf
  have hexec : exec f.instr s = .next (compareWith f.operand e.2 s) := exec_compares he b w f hf
  rw [compareWith_eq] at hexec
  exact ⟨encodes_of_mem_formsOf hf, _, hexec, flagOf_c_compareStatus _ _ _, flagOf_z_compareStatus _ _ _,
    flagOf_n_compareStatus _ _ _, flagOf_compareStatus_of_notMem _ _ _,
    memoryKept_of_eq (readOperand_cpuMem _ _) (readOperand_ppuMem _ _) (readOperand_oam _ _), rfl⟩

/-! A read-modify-write (R164, R205), whatever it makes of the byte. -/

section
variable (o : Operand) (g : Byte → Byte → Byte × Byte) (s : State)

/-- The byte that a read-modify-write writes back, and its new status. -/
def modified : Byte × Byte := g (memRead (effAddr o s).1 s).1 s.p

/-- R164, R205: one read of `EA`, one write there, P and PC. -/
theorem modifyOperand_eq : modifyOperand o g s =
    { memWrite (effAddr o s).1 (modified o g s).1 (memRead (effAddr o s).1 s).2 with
      p := (modified o g s).2, pc := s.pc + operandLen o } := by
  simp only [modifyOperand, modified, advance, effAddr_state, memRead_p, memRead_pc, memWrite_pc]

@[simp] theorem modifyOperand_p : (modifyOperand o g s).p = (modified o g s).2 := by rw [modifyOperand_eq]

/-- R65: on storage the byte at `EA` is the one written, and no other byte of the memories changes. -/
theorem modifyOperand_plain (h : classify (effAddr o s).1 = .plain) :
    memGet (modifyOperand o g s).cpuMem (effAddr o s).1.toNat = (modified o g s).1 ∧
      MemoryKeptBut [(effAddr o s).1.toNat] s (modifyOperand o g s) := by
  rw [modifyOperand_eq, memRead_plain s h, memWrite_plain _ s h]
  exact ⟨memGet_memSet_same _ _ _,
    memoryKeptBut_of_eq (fun n hn => memGet_memSet_other _ _ (List.ne_of_not_mem_cons hn)) rfl rfl⟩

/-- R65: on a device register no byte of CPU memory changes. -/
theorem modifyOperand_device_cpuMem (h : classify (effAddr o s).1 ≠ .plain) :
    (modifyOperand o g s).cpuMem = s.cpuMem := by
  rw [modifyOperand_eq, memWrite_device_cpuMem _ _ h, memRead_cpuMem]

end

/-! What the increments and decrements share: a step modulo 256 and `SetZN` of its result. -/

/-- R205 to R210: `g` adds `n` modulo 256 and sets Z and N by the result. -/
def StepsBy (n : Nat) (g : Byte → Byte → Byte × Byte) : Prop :=
  ∀ v p, (g v p).1.toNat = (v.toNat + n) % 256 ∧ (g v p).2 = withZN (g v p).1 p

theorem stepsBy_incByte : StepsBy 1 incByte := fun v _ => ⟨BitVec.toNat_add v 1, rfl⟩

theorem stepsBy_decByte : StepsBy 255 decByte := fun v _ => ⟨byte_sub_one_toNat v, rfl⟩

/-- R12: the flags of a state whose P is `SetZN` of an earlier one's. -/
theorem flags_of_p_eq_withZN {s t : State} {v : Byte} (hp : t.p = withZN v s.p) :
    flagOf .z t.p = (v == 0) ∧ flagOf .n t.p = v.msb ∧ FlagsKept [.z, .n] s t := by
  unfold FlagsKept
  rw [hp]
  exact ⟨flagOf_z_withZN v s.p, flagOf_n_withZN v s.p, flagOf_withZN_of_notMem v s.p⟩

/-- R205, R206: every form of INC and DEC modifies its operand by a step. -/
theorem exec_steps_memory {k : Mnemonic} {n : Nat} (hk : (k, n) ∈ [(Mnemonic.inc, 1), (.dec, 255)])
    (b : Byte) (w : Word) (s : State) : ∃ g, StepsBy n g ∧
      ∀ f ∈ formsOf k b w, exec f.instr s = .next (modifyOperand f.operand g s) := by
  simp only [List.mem_cons, List.not_mem_nil, or_false, Prod.mk.injEq] at hk
  obtain ⟨rfl, rfl⟩ | ⟨rfl, rfl⟩ := hk
  · exact ⟨incByte, stepsBy_incByte, List.map_inj_left.mp rfl⟩
  · exact ⟨decByte, stepsBy_decByte, List.map_inj_left.mp rfl⟩

/-- Settles O42: `exec` is `modifyOperand` with a step, whose flags are those of `SetZN`. -/
theorem incrementsOfMemory : Obligations.IncrementsOfMemory := by
  intro b w s e he f hf
  obtain ⟨g, hg, hexec⟩ := exec_steps_memory he b w s
  obtain ⟨hv, hp⟩ := hg (memRead (effAddr f.operand s).1 s).1 s.p
  obtain ⟨hz, hn, hkept⟩ := flags_of_p_eq_withZN ((modifyOperand_p f.operand g s).trans hp)
  refine ⟨encodes_of_mem_formsOf hf, (modified f.operand g s).1, modifyOperand f.operand g s, hexec f hf, hv, hz, hn,
    hkept, ?_, modifyOperand_plain f.operand g s, fun hdev n => ?_⟩
  · rw [modifyOperand_p, modifyOperand_eq]
  · rw [modifyOperand_device_cpuMem f.operand g s hdev]

/-- R207 to R210: two one-byte instructions that write a register `r` by `set`, the first with its increment and the
second with its decrement. -/
theorem exec_steps_register {opInc opDec : Byte} {inc dec : Instr} {set : Byte × Byte → State → State} {r : Byte}
    {s : State} (hopInc : formatOf opInc = some (.f1 inc)) (hopDec : formatOf opDec = some (.f1 dec))
    (hinc : exec inc s = .next (set (incByte r s.p) s)) (hdec : exec dec s = .next (set (decByte r s.p) s)) :
    ∀ e ∈ [(opInc, inc, 1), (opDec, dec, 255)],
      EncodesAlone e.1 e.2.1 ∧ ∃ g, StepsBy e.2.2 g ∧ exec e.2.1 s = .next (set (g r s.p) s) := by
  intro e he
  simp only [List.mem_cons, List.not_mem_nil, or_false] at he
  obtain rfl | rfl := he
  · exact ⟨decode_f1 hopInc, incByte, stepsBy_incByte, hinc⟩
  · exact ⟨decode_f1 hopDec, decByte, stepsBy_decByte, hdec⟩

/-- Settles O43: the four write a step of their register, P as `SetZN` of it, and PC. -/
theorem incrementsOfIndexRegisters : Obligations.IncrementsOfIndexRegisters := by
  refine fun s => ⟨fun e he => ?_, fun e he => ?_⟩
  · obtain ⟨hencodes, g, hg, hexec⟩ := exec_steps_register (set := setX) (r := s.x) rfl rfl rfl rfl e he
    obtain ⟨hx, hp⟩ := hg s.x s.p
    obtain ⟨hz, hn, hkept⟩ := flags_of_p_eq_withZN (t := setX (g s.x s.p) s) hp
    exact ⟨hencodes, setX (g s.x s.p) s, hexec, hx, hz, hn, hkept, memoryKept_of_eq rfl rfl rfl, rfl⟩
  · obtain ⟨hencodes, g, hg, hexec⟩ := exec_steps_register (set := setY) (r := s.y) rfl rfl rfl rfl e he
    obtain ⟨hy, hp⟩ := hg s.y s.p
    obtain ⟨hz, hn, hkept⟩ := flags_of_p_eq_withZN (t := setY (g s.y s.p) s) hp
    exact ⟨hencodes, setY (g s.y s.p) s, hexec, hy, hz, hn, hkept, memoryKept_of_eq rfl rfl rfl, rfl⟩

end Sys2Proof.Machine
end

section
/-! PROOF. Transfers and the stack instructions (46_transfer_stack.md): the five transfers that set Z and N as one rule,
the two pushes as one push of a byte, and each pull by the cell that it reads. -/

namespace Sys2Proof.Machine

/-! The transfers. -/

/-- R215 to R219: the transfers that set Z and N: opcode, instruction, the value copied, the register it goes to. -/
def transfers (s : State) : List (Byte × Instr × Byte × (State → Byte)) :=
  [(0xAA, .tax, s.a, fun t => t.x), (0xA8, .tay, s.a, fun t => t.y), (0x8A, .txa, s.x, fun t => t.a),
    (0x98, .tya, s.y, fun t => t.a), (0xBA, .tsx, s.sp, fun t => t.x)]

/-- R215 to R219: the destination takes the value, P is `SetZN` of it, PC moves on; a register that is not the
destination keeps its value, which the instruction alone tells. -/
theorem exec_transfers (s : State) : ∀ e ∈ transfers s, EncodesAlone e.1 e.2.1 ∧
    ∃ t, exec e.2.1 s = .next t ∧ e.2.2.2 t = e.2.2.1 ∧
      t = { s with a := t.a, x := t.x, y := t.y, p := withZN e.2.2.1 s.p, pc := s.pc + 1 } ∧
      (e.2.1 ∉ [Instr.txa, .tya] → t.a = s.a) ∧ (e.2.1 ∉ [Instr.tax, .tsx] → t.x = s.x) ∧
      (e.2.1 ≠ Instr.tay → t.y = s.y) := by
  simp only [transfers, List.forall_mem_cons, List.not_mem_nil, false_imp_iff, implies_true, and_true]
  refine ⟨⟨decode_f1 rfl, ?tax⟩, ⟨decode_f1 rfl, ?tay⟩, ⟨decode_f1 rfl, ?txa⟩, ⟨decode_f1 rfl, ?tya⟩,
    ⟨decode_f1 rfl, ?tsx⟩⟩
  case tax => exact ⟨setX (transferByte s.a s.p) s, rfl, rfl, rfl, fun _ => rfl, by simp, fun _ => rfl⟩
  case tay => exact ⟨setY (transferByte s.a s.p) s, rfl, rfl, rfl, fun _ => rfl, fun _ => rfl, by simp⟩
  case txa => exact ⟨setA (transferByte s.x s.p) s, rfl, rfl, rfl, by simp, fun _ => rfl, fun _ => rfl⟩
  case tya => exact ⟨setA (transferByte s.y s.p) s, rfl, rfl, rfl, by simp, fun _ => rfl, fun _ => rfl⟩
  case tsx => exact ⟨setX (transferByte s.sp s.p) s, rfl, rfl, rfl, fun _ => rfl, by simp, fun _ => rfl⟩

/-- Settles O44: the five copy and set P by the one rule of `exec_transfers`, and TXS writes S and PC. -/
theorem transfersCopyARegister : Obligations.TransfersCopyARegister := by
  refine fun s => ⟨fun e he => ?_, decode_f1 rfl, rfl⟩
  obtain ⟨hencodes, t, hexec, hdest, hframe, hkeeps⟩ := exec_transfers s e he
  have hp : t.p = withZN e.2.2.1 s.p := by rw [hframe]
  obtain ⟨hz, hn, hkept⟩ := flags_of_p_eq_withZN hp
  refine ⟨hencodes, t, hexec, hdest, hz, hn, hkept, ?memory, ?frame, hkeeps⟩
  case memory =>
    rw [hframe]
    exact memoryKept_of_eq rfl rfl rfl
  case frame => rwa [hp]

/-! The pushes. -/

/-- R11: a push changes the stack and S and nothing else. -/
theorem push_frame (v : Byte) (s : State) : push v s = { s with cpuMem := (push v s).cpuMem, sp := s.sp - 1 } := by
  rw [push_eq]

/-- R11: a push writes the cell that S names and no other byte. -/
theorem push_memoryKeptBut (v : Byte) (s : State) : MemoryKeptBut [stackCell s.sp] s (push v s) := by
  refine memoryKeptBut_of_eq (fun n hn => memGet_push_other v (List.ne_of_not_mem_cons hn)) ?_ ?_ <;> rw [push_eq]

/-- R225, R227: each of the two pushes its byte, and PC moves on. -/
theorem exec_pushes (s : State) : ∀ e ∈ [((0x48 : Byte), Instr.pha, s.a), (0x08, .php, s.p ||| 0x30)],
    EncodesAlone e.1 e.2.1 ∧ exec e.2.1 s = .next (advance 1 (push e.2.2 s)) := by
  simp only [List.forall_mem_cons, List.not_mem_nil, false_imp_iff, implies_true, and_true]
  exact ⟨⟨decode_f1 rfl, rfl⟩, ⟨decode_f1 rfl, rfl⟩⟩

/-- Settles O45: both are a push and a step of PC, so cell, S and frame are those of `push`. -/
theorem pushInstructions : Obligations.PushInstructions := by
  intro s e he
  obtain ⟨hencodes, hexec⟩ := exec_pushes s e he
  refine ⟨hencodes, advance 1 (push e.2.2 s), hexec, memGet_push_same e.2.2 s, push_memoryKeptBut e.2.2 s, ?_⟩
  rw [push_frame, advance]

/-! The pulls. -/

/-- R11, R226: A takes the byte in the cell of the raised S, P is `SetZN` of it. -/
theorem pullA_eq (s : State) : pullA s = { s with
    a := memGet s.cpuMem (stackCell (s.sp + 1)), p := withZN (memGet s.cpuMem (stackCell (s.sp + 1))) s.p,
    sp := s.sp + 1, pc := s.pc + 1 } := by
  rw [pullA, pull_eq, stackAddr_toNat, advance, stackCell]

/-- R11, R228: P takes the byte in the cell of the raised S as a pulled status. -/
theorem pullStatus_eq (s : State) : pullStatus s = { s with
    p := loadedStatus (memGet s.cpuMem (stackCell (s.sp + 1))), sp := s.sp + 1, pc := s.pc + 1 } := by
  rw [pullStatus, pull_eq, stackAddr_toNat, advance, stackCell]

/-- R228: the six flags that a pulled status takes from the pulled byte. -/
theorem flagOf_loadedStatus_of_mem (v : Byte) :
    ∀ f ∈ [Flag.n, .v, .d, .i, .z, .c], flagOf f (loadedStatus v) = flagOf f v := by
  intro f hf
  have hb : f ≠ .b := ne_of_mem_of_not_mem hf (by decide)
  have hu : f ≠ .u := ne_of_mem_of_not_mem hf (by decide)
  rw [flagOf_loadedStatus, if_neg hb, if_neg hu]

/-- Settles O46: the pulled byte is the one in the cell of S + 1; PLA's flags are those of `SetZN`, PLP's those of a
pulled status. -/
theorem pullInstructions : Obligations.PullInstructions := by
  intro s v
  refine ⟨⟨decode_f1 rfl, ?pla⟩, ⟨decode_f1 rfl, ?plp⟩⟩
  case pla =>
    have hexec : exec .pla s = .next (pullA s) := rfl
    rw [pullA_eq] at hexec
    exact ⟨_, hexec, rfl, flagOf_z_withZN _ _, flagOf_n_withZN _ _, flagOf_withZN_of_notMem _ _,
      memoryKept_of_eq rfl rfl rfl, rfl⟩
  case plp =>
    have hexec : exec .plp s = .next (pullStatus s) := rfl
    rw [pullStatus_eq] at hexec
    obtain ⟨hb, hu⟩ := constant_bits_loadedStatus v
    exact ⟨_, hexec, flagOf_loadedStatus_of_mem v, hb, hu, memoryKept_of_eq rfl rfl rfl, rfl⟩

end Sys2Proof.Machine
end

section
/-! PROOF. The flag instructions and NOP (47_flags_nop.md): the seven are one rule, `setStatus`, and differ in the flag
they name and the value they give it. -/

namespace Sys2Proof.Machine

/-- R235 to R241: opcode, instruction, the flag it writes, the value it writes. -/
def flagInstructions : List (Byte × Instr × Flag × Bool) :=
  [(0x18, .clc, .c, false), (0x38, .sec, .c, true), (0x58, .cli, .i, false), (0x78, .sei, .i, true),
    (0xD8, .cld, .d, false), (0xF8, .sed, .d, true), (0xB8, .clv, .v, false)]

/-- R235 to R241: each is one byte long and gives its flag its value. -/
theorem exec_flagInstructions (s : State) : ∀ e ∈ flagInstructions,
    EncodesAlone e.1 e.2.1 ∧ exec e.2.1 s = .next (setStatus e.2.2.1 e.2.2.2 s) := by
  simp only [flagInstructions, List.forall_mem_cons, List.not_mem_nil, false_imp_iff, implies_true, and_true]
  exact ⟨⟨decode_f1 rfl, rfl⟩, ⟨decode_f1 rfl, rfl⟩, ⟨decode_f1 rfl, rfl⟩, ⟨decode_f1 rfl, rfl⟩,
    ⟨decode_f1 rfl, rfl⟩, ⟨decode_f1 rfl, rfl⟩, ⟨decode_f1 rfl, rfl⟩⟩

@[simp] theorem setStatus_p (f : Flag) (x : Bool) (s : State) : (setStatus f x s).p = withFlag f x s.p := rfl

theorem setStatus_flagsKept (f : Flag) (x : Bool) (s : State) : FlagsKept [f] s (setStatus f x s) := by
  intro g hg
  rw [setStatus_p, flagOf_withFlag, if_neg (List.ne_of_not_mem_cons hg)]

/-- Settles O47: the seven are `setStatus`, which writes its flag and PC; NOP moves PC alone. -/
theorem flagInstructionsWriteOneFlag : Obligations.FlagInstructionsWriteOneFlag := by
  refine fun s => ⟨fun e he => ?_, decode_f1 rfl, rfl⟩
  obtain ⟨hencodes, hexec⟩ := exec_flagInstructions s e he
  exact ⟨hencodes, setStatus e.2.2.1 e.2.2.2 s, hexec, flagOf_withFlag_same e.2.2.1 e.2.2.2 s.p,
    setStatus_flagsKept e.2.2.1 e.2.2.2 s, memoryKept_of_eq rfl rfl rfl, rfl⟩

end Sys2Proof.Machine
end

section
/-! PROOF. Load, store and bit test (48_load_store_bit.md): the three loads as one rule that differs in the register
written, the store of a byte at `EA` on storage and on a device register, and the flags of BIT. -/

namespace Sys2Proof.Machine

/-! The loads: one read of the operand, then the register, P and PC. -/

section
variable (o : Operand) (s : State)

theorem loadA_eq : loadA o s = { (readOperand o s).2 with
    a := (readOperand o s).1, p := withZN (readOperand o s).1 s.p, pc := s.pc + operandLen o } := by
  simp only [loadA, withOperand, advance, readOperand_p, readOperand_pc]

theorem loadX_eq : loadX o s = { (readOperand o s).2 with
    x := (readOperand o s).1, p := withZN (readOperand o s).1 s.p, pc := s.pc + operandLen o } := by
  simp only [loadX, withOperand, advance, readOperand_p, readOperand_pc]

theorem loadY_eq : loadY o s = { (readOperand o s).2 with
    y := (readOperand o s).1, p := withZN (readOperand o s).1 s.p, pc := s.pc + operandLen o } := by
  simp only [loadY, withOperand, advance, readOperand_p, readOperand_pc]

end

/-- R250 to R252: the three mnemonics, the register each loads, and its operation. -/
def loads : List (Mnemonic × (State → Byte) × (Operand → State → State)) :=
  [(.lda, fun t => t.a, loadA), (.ldx, fun t => t.x, loadX), (.ldy, fun t => t.y, loadY)]

/-- R250 to R252: every form of the three loads its own operand. -/
theorem exec_loads {k : Mnemonic} {dest : State → Byte} {load : Operand → State → State}
    (hk : (k, dest, load) ∈ loads) (b : Byte) (w : Word) (s : State) :
    ∀ f ∈ formsOf k b w, exec f.instr s = .next (load f.operand s) := by
  refine List.map_inj_left.mp ?_
  simp only [loads, List.mem_cons, List.not_mem_nil, or_false, Prod.mk.injEq] at hk
  obtain ⟨rfl, rfl, rfl⟩ | ⟨rfl, rfl, rfl⟩ | ⟨rfl, rfl, rfl⟩ := hk <;> rfl

/-- R250 to R252: the destination takes the operand, P is `SetZN` of it, the rest is as the read left it with PC
advanced; a register that is not the destination keeps its value, which the mnemonic alone tells. -/
theorem load_spec {k : Mnemonic} {dest : State → Byte} {load : Operand → State → State}
    (hk : (k, dest, load) ∈ loads) (o : Operand) (s : State) :
    dest (load o s) = (readOperand o s).1 ∧
      load o s = { (readOperand o s).2 with
        a := (load o s).a, x := (load o s).x, y := (load o s).y, p := withZN (readOperand o s).1 s.p,
        pc := s.pc + operandLen o } ∧
      (k ≠ .lda → (load o s).a = s.a) ∧ (k ≠ .ldx → (load o s).x = s.x) ∧ (k ≠ .ldy → (load o s).y = s.y) := by
  simp only [loads, List.mem_cons, List.not_mem_nil, or_false, Prod.mk.injEq] at hk
  obtain ⟨rfl, rfl, rfl⟩ | ⟨rfl, rfl, rfl⟩ | ⟨rfl, rfl, rfl⟩ := hk
  · rw [loadA_eq]
    exact ⟨rfl, rfl, fun h => absurd rfl h, fun _ => readOperand_x o s, fun _ => readOperand_y o s⟩
  · rw [loadX_eq]
    exact ⟨rfl, rfl, fun _ => readOperand_a o s, fun h => absurd rfl h, fun _ => readOperand_y o s⟩
  · rw [loadY_eq]
    exact ⟨rfl, rfl, fun _ => readOperand_a o s, fun _ => readOperand_x o s, fun h => absurd rfl h⟩

/-- R250 to R252: each mnemonic and its register have their operation among the loads. -/
theorem exists_load {e : Mnemonic × (State → Byte)}
    (he : e ∈ [(Mnemonic.lda, fun t : State => t.a), (.ldx, fun t => t.x), (.ldy, fun t => t.y)]) :
    ∃ load, (e.1, e.2, load) ∈ loads := by
  simp only [List.mem_cons, List.not_mem_nil, or_false] at he
  obtain rfl | rfl | rfl := he
  · exact ⟨loadA, by simp [loads]⟩
  · exact ⟨loadX, by simp [loads]⟩
  · exact ⟨loadY, by simp [loads]⟩

/-- Settles O48: `exec` is one of the three loads, each a read of the operand and `SetZN` of it by `load_spec`. -/
theorem loadsReadTheOperand : Obligations.LoadsReadTheOperand := by
  intro b w s e he f hf
  obtain ⟨load, hk⟩ := exists_load he
  obtain ⟨hdest, hframe, hkeeps⟩ := load_spec hk f.operand s
  have hp : (load f.operand s).p = withZN (readOperand f.operand s).1 s.p := by rw [hframe]
  obtain ⟨hz, hn, hkept⟩ := flags_of_p_eq_withZN hp
  refine ⟨encodes_of_mem_formsOf hf, load f.operand s, exec_loads hk b w s f hf, hdest, hz, hn, hkept, ?memory,
    ?frame, hkeeps⟩
  case memory =>
    rw [hframe]
    exact memoryKept_of_eq (readOperand_cpuMem _ _) (readOperand_ppuMem _ _) (readOperand_oam _ _)
  case frame => rwa [hp]

/-! The stores. -/

section
variable (o : Operand) (v : Byte) (s : State)

/-- R130, R253: one write at `EA`, which is not read, and PC. -/
theorem storeOperand_eq : storeOperand o v s =
    { memWrite (effAddr o s).1 v s with pc := s.pc + operandLen o } := by
  simp only [storeOperand, advance, effAddr_state, memWrite_pc]

/-- R65: on storage the byte at `EA` is the one stored, and no other byte of the memories changes. -/
theorem storeOperand_plain (h : classify (effAddr o s).1 = .plain) :
    memGet (storeOperand o v s).cpuMem (effAddr o s).1.toNat = v ∧
      MemoryKeptBut [(effAddr o s).1.toNat] s (storeOperand o v s) := by
  rw [storeOperand_eq, memWrite_plain v s h]
  exact ⟨memGet_memSet_same _ _ _,
    memoryKeptBut_of_eq (fun n hn => memGet_memSet_other _ _ (List.ne_of_not_mem_cons hn)) rfl rfl⟩

/-- R65: a store to a device register leaves the CPU memory. -/
theorem storeOperand_device_cpuMem (h : classify (effAddr o s).1 ≠ .plain) :
    (storeOperand o v s).cpuMem = s.cpuMem := by
  rw [storeOperand_eq, memWrite_device_cpuMem v s h]

end

/-- R253 to R255: every form of the three stores its own register at its own `EA`. -/
theorem exec_stores {k : Mnemonic} {r : Byte} {s : State}
    (hk : (k, r) ∈ [(Mnemonic.sta, s.a), (.stx, s.x), (.sty, s.y)]) (b : Byte) (w : Word) :
    ∀ f ∈ formsOf k b w, exec f.instr s = .next (storeOperand f.operand r s) := by
  refine List.map_inj_left.mp ?_
  simp only [List.mem_cons, List.not_mem_nil, or_false, Prod.mk.injEq] at hk
  obtain ⟨rfl, rfl⟩ | ⟨rfl, rfl⟩ | ⟨rfl, rfl⟩ := hk <;> rfl

/-- Settles O49: `exec` is `storeOperand`, one write at `EA`, by the class of which the memory clauses hold. -/
theorem storesWriteTheEffectiveAddress : Obligations.StoresWriteTheEffectiveAddress := by
  intro b w s e he f hf
  refine ⟨encodes_of_mem_formsOf hf, storeOperand f.operand e.2 s, exec_stores he b w f hf,
    storeOperand_eq f.operand e.2 s, ?status, storeOperand_plain f.operand e.2 s, fun hdev n => ?device⟩
  case status => rw [storeOperand_eq, memWrite_p]
  case device => rw [storeOperand_device_cpuMem f.operand e.2 s hdev]

/-! BIT. -/

section
variable (a m p : Byte)

theorem flagOf_z_bitStatus : flagOf .z (bitStatus a m p) = (a &&& m == 0) := by
  rw [bitStatus, flagOf_withFlag, if_neg (by decide), flagOf_withFlag, if_neg (by decide), flagOf_withFlag_same]

theorem flagOf_n_bitStatus : flagOf .n (bitStatus a m p) = m.getLsbD 7 := by
  rw [bitStatus, flagOf_withFlag, if_neg (by decide), flagOf_withFlag_same]

theorem flagOf_v_bitStatus : flagOf .v (bitStatus a m p) = m.getLsbD 6 := by
  rw [bitStatus, flagOf_withFlag_same]

theorem flagOf_bitStatus_of_notMem (f : Flag) (hf : f ∉ [Flag.z, .n, .v]) :
    flagOf f (bitStatus a m p) = flagOf f p := by
  simp only [List.mem_cons, List.not_mem_nil, or_false, not_or] at hf
  obtain ⟨hz, hn, hv⟩ := hf
  simp only [bitStatus, flagOf_withFlag, hz, hn, hv, if_false]

end

/-- R256: the operand is read, P is written from A and M, PC is advanced. -/
theorem bitTest_eq (o : Operand) (s : State) : bitTest o s = { (readOperand o s).2 with
    p := bitStatus s.a (readOperand o s).1 s.p, pc := s.pc + operandLen o } := by
  simp only [bitTest, withOperand, advance, readOperand_a, readOperand_p, readOperand_pc]

/-- R256: both forms of BIT test their own operand. -/
theorem exec_bit (b : Byte) (w : Word) (s : State) :
    ∀ f ∈ formsOf .bit b w, exec f.instr s = .next (bitTest f.operand s) :=
  List.map_inj_left.mp rfl

/-- Settles O50: `exec` is `bitTest`, which writes `bitStatus` and PC after the read of the operand. -/
theorem bitTestsTheOperand : Obligations.BitTestsTheOperand := by
  intro b w s f hf
  have hexec : exec f.instr s = .next (bitTest f.operand s) := exec_bit b w s f hf
  rw [bitTest_eq] at hexec
  exact ⟨encodes_of_mem_formsOf hf, _, hexec, flagOf_z_bitStatus _ _ _, flagOf_n_bitStatus _ _ _,
    flagOf_v_bitStatus _ _ _, flagOf_bitStatus_of_notMem _ _ _,
    memoryKept_of_eq (readOperand_cpuMem _ _) (readOperand_ppuMem _ _) (readOperand_oam _ _), rfl⟩

end Sys2Proof.Machine
end

section
/-! PROOF. What an instruction keeps (10_state.md, 60_exceptions.md): the invariant, and all that belongs to the
compositor. Both follow from `exec_shape`, one shape at a time. -/

namespace Sys2Proof.Machine

/-! The invariant. -/

/-- R33, R34: an instruction's next state has the invariant, whatever its shape. -/
theorem ExecShape.stateInv {s t : State} (h : ExecShape s t) (hs : StateInv s) : StateInv t := by
  cases h with
  | registers a x y sp p pc hp =>
    obtain hsame | ⟨v, rfl⟩ := hp
    · exact hs.setRegisters _ _ _ _ _ _ _ _ hsame
    · obtain ⟨hb, hu⟩ := constant_bits_loadedStatus v
      exact hs.registers _ _ _ _ _ _ _ _ hb hu
  | operand o a x y p pc hp => exact (hs.readOperand o).setRegisters _ _ _ _ _ _ _ _ hp
  | store o v => exact hs.storeOperand o v
  | modify o f hf => exact hs.modifyOperand o f hf
  | jumpIndirect ptr => exact ((hs.memRead _).memRead _).setRegisters _ _ _ _ _ _ _ _ (.refl _)
  | push v pc => exact (hs.push v).setRegisters _ _ _ _ _ _ _ _ (.refl _)
  | pushWord w pc => exact ((hs.push _).push _).setRegisters _ _ _ _ _ _ _ _ (.refl _)
  | trap resume => exact hs.takeTrap resume irqVector

/-! What is the compositor's. -/

/-- R39, R355, R356: what no instruction changes: the picture, the phase, the presented frames, the mirroring bit, the
two sprite bits, HALTED and the schedule's two numbers; and VBLANK is never set. -/
structure CompositorKept (s t : State) : Prop where
  framebuf : t.framebuf = s.framebuf
  phase : t.phase = s.phase
  presented : t.presented = s.presented
  mirroring : t.mirroring = s.mirroring
  spr0hit : t.spr0hit = s.spr0hit
  sprovf : t.sprovf = s.sprovf
  halted : t.halted = s.halted
  cpuLeft : t.cpuLeft = s.cpuLeft
  compositorLeft : t.compositorLeft = s.compositorLeft
  vblank : t.vblank = true → s.vblank = true

theorem CompositorKept.trans {s t u : State} (h : CompositorKept s t) (h' : CompositorKept t u) :
    CompositorKept s u where
  framebuf := h'.framebuf.trans h.framebuf
  phase := h'.phase.trans h.phase
  presented := h'.presented.trans h.presented
  mirroring := h'.mirroring.trans h.mirroring
  spr0hit := h'.spr0hit.trans h.spr0hit
  sprovf := h'.sprovf.trans h.sprovf
  halted := h'.halted.trans h.halted
  cpuLeft := h'.cpuLeft.trans h.cpuLeft
  compositorLeft := h'.compositorLeft.trans h.compositorLeft
  vblank := h.vblank ∘ h'.vblank

/-- The CPU registers are none of the compositor's. -/
theorem compositorKept_registers (s : State) (a x y sp p : Byte) (pc : Word) :
    CompositorKept s { s with a := a, x := x, y := y, sp := sp, p := p, pc := pc } :=
  ⟨rfl, rfl, rfl, rfl, rfl, rfl, rfl, rfl, rfl, id⟩

theorem CompositorKept.refl (s : State) : CompositorKept s s := compositorKept_registers s s.a s.x s.y s.sp s.p s.pc

theorem CompositorKept.registers {s t : State} (h : CompositorKept s t) (a x y sp p : Byte) (pc : Word) :
    CompositorKept s { t with a := a, x := x, y := y, sp := sp, p := p, pc := pc } :=
  h.trans (compositorKept_registers t a x y sp p pc)

/-- R275: of all reads only one of the status register changes VBLANK, and it clears it. -/
theorem memRead_vblank (a : Word) (s : State) (h : (memRead a s).2.vblank = true) : s.vblank = true := by
  revert h
  unfold memRead
  split
  · exact id
  · unfold readPpuReg
    split <;> simp
  · unfold readController
    split <;> simp

theorem compositorKept_memRead (a : Word) (s : State) : CompositorKept s (memRead a s).2 :=
  ⟨memRead_framebuf a s, memRead_phase a s, memRead_presented a s, memRead_mirroring a s, memRead_spr0hit a s,
    memRead_sprovf a s, memRead_halted a s, memRead_cpuLeft a s, memRead_compositorLeft a s, memRead_vblank a s⟩

theorem CompositorKept.memRead {s t : State} (h : CompositorKept s t) (a : Word) :
    CompositorKept s (memRead a t).2 := h.trans (compositorKept_memRead a t)

theorem CompositorKept.memWrite {s t : State} (h : CompositorKept s t) (a : Word) (v : Byte) :
    CompositorKept s (memWrite a v t) :=
  h.trans ⟨memWrite_framebuf a v t, memWrite_phase a v t, memWrite_presented a v t, memWrite_mirroring a v t,
    memWrite_spr0hit a v t, memWrite_sprovf a v t, memWrite_halted a v t, memWrite_cpuLeft a v t,
    memWrite_compositorLeft a v t, fun hv => (memWrite_vblank a v t) ▸ hv⟩

theorem CompositorKept.push {s t : State} (h : CompositorKept s t) (v : Byte) : CompositorKept s (push v t) :=
  (h.memWrite _ v).registers _ _ _ _ _ _

theorem CompositorKept.readOperand {s t : State} (h : CompositorKept s t) (o : Operand) :
    CompositorKept s (readOperand o t).2 := by
  cases o with
  | imm m => exact h
  | zp b | zpx b | zpy b | abs w | absx w | absy w | indx b | indy b =>
    rw [Machine.readOperand, effAddr_state]
    · exact h.memRead _
    · exact fun _ => nofun

/-- R355: an instruction keeps what is the compositor's, whatever its shape. -/
theorem ExecShape.compositorKept {s t : State} (h : ExecShape s t) : CompositorKept s t := by
  have hs := CompositorKept.refl s
  cases h with
  | registers a x y sp p pc hp => exact hs.registers _ _ _ _ _ _
  | operand o a x y p pc hp => exact (hs.readOperand o).registers _ _ _ _ _ _
  | store o v =>
    rw [storeOperand_eq]
    exact (hs.memWrite _ v).registers _ _ _ _ _ _
  | modify o f hf =>
    rw [modifyOperand_eq]
    exact ((hs.memRead _).memWrite _ _).registers _ _ _ _ _ _
  | jumpIndirect ptr => exact ((hs.memRead _).memRead _).registers _ _ _ _ _ _
  | push v pc => exact (hs.push v).registers _ _ _ _ _ _
  | pushWord w pc => exact ((hs.push _).push _).registers _ _ _ _ _ _
  | trap resume =>
    exact ((((((hs.push _).push _).push _).registers _ _ _ _ _ _).memRead _).memRead _).registers _ _ _ _ _ _

/-- Settles O59: by the shape of the instruction's next state. -/
theorem noInstructionDoesTheCompositorsWork : Obligations.NoInstructionDoesTheCompositorsWork := by
  intro i s t h
  have hkept := (exec_shape h).compositorKept
  exact ⟨hkept.framebuf, hkept.phase, hkept.presented, hkept.mirroring, hkept.spr0hit, hkept.sprovf, hkept.halted,
    hkept.vblank⟩

end Sys2Proof.Machine
end

section
/-! PROOF. The step (30_encoding.md, R100; 60_exceptions.md): what the fetch answers by the format of the opcode's
entry, what a CPU step can be, and that either agent's step keeps the invariant. -/

namespace Sys2Proof.Machine

/-! The fetch. -/

/-- R145: the state after the fetch's reads. -/
def Fetched.after : Fetched → State
  | .instr _ t | .undefined _ t => t

/-- R145: what every read keeps, the fetch keeps. -/
theorem fetch_keeps {motive : State → Prop} (hread : ∀ a t, motive t → motive (memRead a t).2) {s : State}
    (hs : motive s) : motive (fetch s).after := by
  have hop := hread s.pc _ hs
  have hb1 := hread (s.pc + 1) _ hop
  have hb2 := hread (s.pc + 2) _ hb1
  obtain ⟨i, h | h | h⟩ | h := fetch_state s
  · rwa [h]
  · rwa [h]
  · rwa [h]
  · rwa [h]

section
variable {s : State}

/-- R381: no operand byte is read after an undefined opcode. -/
theorem fetch_of_none (h : formatOf (memRead s.pc s).1 = none) :
    fetch s = .undefined (memRead s.pc s).1 (memRead s.pc s).2 := by
  simp only [fetch, h]

theorem fetch_f1 {i : Instr} (h : formatOf (memRead s.pc s).1 = some (.f1 i)) :
    fetch s = .instr i (memRead s.pc s).2 := by
  simp only [fetch, h]

theorem fetch_f2 {mk : Byte → Instr} (h : formatOf (memRead s.pc s).1 = some (.f2 mk)) :
    let b1 := memRead (s.pc + 1) (memRead s.pc s).2
    fetch s = .instr (mk b1.1) b1.2 := by
  simp only [fetch, h]

theorem fetch_f3 {mk : Word → Instr} (h : formatOf (memRead s.pc s).1 = some (.f3 mk)) :
    let b1 := memRead (s.pc + 1) (memRead s.pc s).2
    let b2 := memRead (s.pc + 2) b1.2
    fetch s = .instr (mk (word b1.1 b2.1)) b2.2 := by
  simp only [fetch, h]

end

/-- R100, R101: the fetch answers the instruction that the bytes at PC decode to, after as many reads as it is long. -/
theorem fetch_of_decode {s : State} {i : Instr} {rest : List Byte} :
    let op := memRead s.pc s
    let b1 := memRead (s.pc + 1) op.2
    let b2 := memRead (s.pc + 2) b1.2
    decode [op.1, b1.1, b2.1] = .instr i rest →
      fetch s = .instr i (if i.length = 1 then op.2 else if i.length = 2 then b1.2 else b2.2) := by
  intro op b1 b2 hdecode
  obtain ⟨fmt, b, w, hop, rfl, htail⟩ := decode_eq_instr hdecode
  rw [length_make hop]
  cases fmt with
  | f1 i => exact fetch_f1 hop
  | f2 mk =>
    obtain ⟨rfl, -⟩ := List.cons.inj htail
    exact fetch_f2 hop
  | f3 mk =>
    obtain ⟨hlo, htail⟩ := List.cons.inj htail
    obtain ⟨hhi, -⟩ := List.cons.inj htail
    obtain rfl : word b1.1 b2.1 = w := by rw [hlo, hhi, word_bytes]
    exact fetch_f3 hop

/-- Settles O6: the CPU has the move, and the fetch answers the decoded instruction. -/
theorem stepRunsTheDecodedInstruction : Obligations.StepRunsTheDecodedInstruction := by
  intro s left i rest hhalted hleft op b1 b2 hdecode
  have hfetch := fetch_of_decode (s := { s with cpuLeft := left }) hdecode
  rw [step_of_budget hhalted hleft, cpuStep, hfetch]

/-- Settles O7: in storage each of the fetch's reads gives the byte held there and changes nothing. -/
theorem stepFromStorageRunsTheBytesThere : Obligations.StepFromStorageRunsTheBytesThere := by
  intro s left i rest hhalted hleft h0 h1 h2 hdecode
  have hstep := stepRunsTheDecodedInstruction s left i rest hhalted hleft
  simp only [memRead_plain _ h0, memRead_plain _ h1, memRead_plain _ h2, ite_self] at hstep
  exact hstep hdecode

/-- Settles O8: the listed bytes are those without an entry, so the fetch stops at the opcode. -/
theorem undefinedOpcodeHaltsTheCpu : Obligations.UndefinedOpcodeHaltsTheCpu := by
  intro s left hhalted hleft op hmem
  have hfetch : fetch { s with cpuLeft := left } = .undefined op.1 op.2 :=
    fetch_of_none ((mem_undefinedOpcodes_iff _).mp hmem)
  have hpc : op.2.pc = s.pc := memRead_pc _ _
  refine ⟨?_, fun t => rfl⟩
  rw [step_of_budget hhalted hleft, cpuStep, hfetch, ← hpc]
  rfl

/-! The step's answer. -/

/-- R100: no arm of `exec` faults or refuses. -/
theorem exec_eq_next (i : Instr) (s : State) : ∃ t, exec i s = .next t := by
  cases i <;> exact ⟨_, rfl⟩

/-- R100, R114: a CPU step runs an instruction, or records an undefined opcode byte, in the state after the fetch. -/
theorem cpuStep_cases (s : State) :
    (∃ i, cpuStep s = exec i (fetch s).after) ∨
      ∃ op, cpuStep s = .next (raiseUnknownOpcode op (fetch s).after.pc (fetch s).after) := by
  unfold cpuStep
  split
  next i t hf => exact .inl ⟨i, by rw [hf]; rfl⟩
  next op t hf => exact .inr ⟨op, by rw [hf]; rfl⟩

theorem cpuStep_eq_next (s : State) : ∃ t, cpuStep s = .next t := by
  obtain ⟨i, h⟩ | ⟨op, h⟩ := cpuStep_cases s
  · rw [h]
    exact exec_eq_next i _
  · exact ⟨_, h⟩

/-- R16, R100, R354: a step is the CPU's or the compositor's. -/
theorem step_cases (s : State) : step s = cpuStep (spendCpuStep s) ∨ step s = .next (compositorStep s) := by
  unfold step
  cases nextAgent s with
  | cpu => exact .inl rfl
  | compositor => exact .inr rfl

theorem step_eq_next (s : State) : ∃ t, step s = .next t := by
  obtain h | h := step_cases s
  · rw [h]
    exact cpuStep_eq_next _
  · exact ⟨_, h⟩

/-- Settles O10: by the step's two cases. -/
theorem everyStepAnswersANextState : Obligations.EveryStepAnswersANextState := ⟨exec_eq_next, step_eq_next⟩

/-! The invariant, agent by agent. -/

theorem StateInv.cpuStep {s t : State} (hs : StateInv s) (h : cpuStep s = .next t) : StateInv t := by
  have hfetched : StateInv (fetch s).after := fetch_keeps (fun a _ hu => hu.memRead a) hs
  obtain ⟨i, hstep⟩ | ⟨op, hstep⟩ := cpuStep_cases s
  · exact (exec_shape (hstep.symm.trans h)).stateInv hfetched
  · obtain rfl := Host.Outcome.next.inj (hstep.symm.trans h)
    exact hfetched.setRegisters _ _ _ _ _ _ _ _ (.refl _)

/-- R350 to R354: the status bits follow the phase, and the frame that `VBlankBegin` presents is the one drawn. -/
theorem StateInv.compositorCycle {s : State} (hs : StateInv s) : StateInv (compositorCycle s) := by
  unfold Machine.compositorCycle
  split
  next hphase =>
    have hvblank : s.vblank ≠ true := fun hv => absurd (hs.vblank_phase hv) (by rw [hphase]; decide)
    exact { hs with
      vblank_phase := fun hv => absurd hv hvblank
      hit_phase := fun _ => nofun
      presented_frame := nofun }
  next => exact { hs with
      vblank_phase := fun _ => rfl
      hit_phase := fun _ => nofun
      presented_frame := fun _ => rfl }
  next => exact { hs with
      vblank_phase := nofun
      hit_phase := nofun
      presented_frame := nofun }

/-- The invariant says nothing of the schedule's numbers and the draws. -/
theorem StateInv.compositorStep {s : State} (hs : StateInv s) : StateInv (compositorStep s) :=
  { hs.compositorCycle with }

/-- Settles O11: by the agent that moves. -/
theorem stepKeepsTheInvariant : Obligations.StepKeepsTheInvariant := by
  intro s t hs h
  obtain hstep | hstep := step_cases s
  · have hspent : StateInv (spendCpuStep s) := hs.setRegisters _ _ _ _ _ _ _ _ (.refl _)
    exact hspent.cpuStep (hstep.symm.trans h)
  · obtain rfl := Host.Outcome.next.inj (hstep.symm.trans h)
    exact hs.compositorStep

end Sys2Proof.Machine
end

section
/-! PROOF. Runs of the machine (52_frame_compositor.md, R350 to R356; 70_reset_and_hazards.md, R421): what a step of
each agent keeps, the halted CPU, the guaranteed length of vertical blank, and the fairness of the schedule. -/

namespace Sys2Proof.Machine

/-! What each agent's step keeps. -/

/-- R39, R355: a CPU step keeps what is the compositor's; HALTED alone may change, by an undefined opcode. -/
theorem cpuStep_compositorKept {s t : State} (h : cpuStep s = .next t) :
    CompositorKept s { t with halted := s.halted } := by
  have hfetched : CompositorKept s (fetch s).after := fetch_keeps (fun a _ hu => hu.memRead a) (.refl s)
  obtain ⟨i, hstep⟩ | ⟨op, hstep⟩ := cpuStep_cases s
  · have hkept := hfetched.trans (exec_shape (hstep.symm.trans h)).compositorKept
    exact { hkept with halted := rfl }
  · obtain rfl := Host.Outcome.next.inj (hstep.symm.trans h)
    exact { hfetched with halted := rfl }

/-- R421: while the CPU is not halted and has a step left it moves: the phase, the presented frames and the bound on
the compositor stay, and one step of the budget is spent. -/
theorem step_of_cpu {s : State} (hhalted : s.halted = none) (hleft : s.cpuLeft ≠ 0) :
    ∃ t, step s = .next t ∧ t.phase = s.phase ∧ t.presented = s.presented ∧ t.cpuLeft + 1 = s.cpuLeft := by
  obtain ⟨left, hsucc⟩ := Nat.exists_eq_succ_of_ne_zero hleft
  obtain ⟨t, ht⟩ := cpuStep_eq_next { s with cpuLeft := left }
  have hkept := cpuStep_compositorKept ht
  exact ⟨t, (step_of_budget hhalted hsucc).trans ht, hkept.phase, hkept.presented,
    (congrArg (· + 1) hkept.cpuLeft).trans hsucc.symm⟩

/-- R39, R372: the part of the state that a halted CPU leaves as it is: HALTED, the CPU's registers, the memories. -/
def cpuPart (s : State) :=
  (s.halted, s.a, s.x, s.y, s.sp, s.p, s.pc, s.cpuMem, s.ppuMem, s.oam)

/-- R350 to R354: the compositor writes no register of the CPU, no memory and not HALTED. -/
theorem cpuPart_compositorStep (s : State) : cpuPart (compositorStep s) = cpuPart s := by
  rw [compositorStep_frame]
  rfl

theorem cpuPart_iterate_compositorStep (k : Nat) (s : State) : cpuPart (compositorStep^[k] s) = cpuPart s := by
  induction k with
  | zero => rfl
  | succ k ih => rw [Function.iterate_succ_apply', cpuPart_compositorStep, ih]

theorem compositorStep_halted (s : State) : (compositorStep s).halted = s.halted :=
  congrArg Prod.fst (cpuPart_compositorStep s)

/-! The compositor's cycle. -/

section
variable {s : State}

theorem compositorCycle_of_idle (h : s.phase = .idle) : compositorCycle s = render s := by
  rw [compositorCycle, h]

theorem compositorCycle_of_rendered (h : s.phase = .rendered) : compositorCycle s = vblankBegin s := by
  rw [compositorCycle, h]

theorem compositorCycle_of_inVBlank (h : s.phase = .inVBlank) : compositorCycle s = vblankEnd s := by
  rw [compositorCycle, h]

end

/-- R350: the phase and the presented frames are those of the cycle step. -/
theorem compositorStep_phase (s : State) : (compositorStep s).phase = (compositorCycle s).phase := rfl

theorem compositorStep_presented (s : State) : (compositorStep s).presented = (compositorCycle s).presented := rfl

/-- R354: the cycle step's numbers are those of the schedule's draws, made in the state after it. -/
theorem compositorStep_eq (s : State) : compositorStep s = { compositorCycle s with
    cpuLeft := (compositorStep s).cpuLeft, compositorLeft := (compositorStep s).compositorLeft,
    draws := s.draws + 1 } := by
  obtain ⟨-, -, hdraws⟩ := compositorCycle_schedule s
  rw [← hdraws]
  rfl

/-- Settles O56: each phase by its own step of the cycle. -/
theorem vBlankStepsFollowRender : Obligations.VBlankStepsFollowRender := by
  intro s
  refine ⟨step_of_spent, compositorCycle_of_rendered, compositorCycle_of_inVBlank, fun h => ?_, compositorStep_eq s⟩
  have hcycle := compositorCycle_of_idle h
  exact ⟨hcycle, by rw [hcycle, render_phase]⟩

/-! Runs. -/

theorem run_succ_of_step {s t : State} (h : step s = .next t) (k : Nat) :
    Sys2Proof.core.run (k + 1) s = Sys2Proof.core.run k t := by
  have hcore : Sys2Proof.core.step s = .next t := h
  simp only [Host.Core.run, hcore]

/-- R372: a run from a halted state is the compositor's alone. -/
theorem run_of_halted {s : State} {f : CpuFault} (h : s.halted = some f) (k : Nat) :
    Sys2Proof.core.run k s = .next (compositorStep^[k] s) := by
  induction k generalizing s with
  | zero => rfl
  | succ k ih =>
    rw [run_succ_of_step (step_of_halted h), ih ((compositorStep_halted s).trans h), Function.iterate_succ_apply]

/-- Settles O9: every step is the compositor's, which keeps the CPU's part of the state. -/
theorem haltedCpuNeverMovesAgain : Obligations.HaltedCpuNeverMovesAgain := by
  intro s f k h
  have hkept := cpuPart_iterate_compositorStep k s
  simp only [cpuPart, Prod.mk.injEq, h] at hkept
  exact ⟨step_of_halted h, _, run_of_halted h k, hkept⟩

/-! Vertical blank. -/

/-- R421: for as many steps as the CPU has in its budget the compositor does not move, unless the CPU halts. -/
theorem run_within_budget {s : State} {k : Nat} (h : k ≤ s.cpuLeft) :
    ∃ t : State, Sys2Proof.core.run k s = .next t ∧
      (t.halted = none → t.phase = s.phase ∧ t.presented = s.presented) := by
  induction k generalizing s with
  | zero => exact ⟨s, rfl, fun _ => ⟨rfl, rfl⟩⟩
  | succ k ih =>
    cases hhalted : s.halted with
    | some f =>
      refine ⟨_, run_of_halted hhalted (k + 1), fun hnone => ?_⟩
      have hkept : (compositorStep^[k + 1] s).halted = s.halted :=
        congrArg Prod.fst (cpuPart_iterate_compositorStep (k + 1) s)
      rw [hkept, hhalted] at hnone
      contradiction
    | none =>
      obtain ⟨u, hstep, hphase, hpresented, hspent⟩ := step_of_cpu hhalted (by omega)
      obtain ⟨t, hrun, hkept⟩ := ih (s := u) (by omega)
      rw [hphase, hpresented] at hkept
      exact ⟨t, (run_succ_of_step hstep k).trans hrun, hkept⟩

/-- Settles O58: `VBlankBegin` leaves a budget of at least the guaranteed steps. -/
theorem vBlankLastsTheGuaranteedCpuSteps : Obligations.VBlankLastsTheGuaranteedCpuSteps := by
  intro s k hphase hleft hk
  have hcycle := compositorCycle_of_rendered hphase
  have hbudget : k ≤ (compositorStep s).cpuLeft := by
    refine hk.trans ?_
    have hguaranteed := guaranteed_le_cpuBudget (compositorCycle s)
    rwa [hcycle, vblankBegin_phase, ← hcycle] at hguaranteed
  obtain ⟨t, hrun, hkept⟩ := run_within_budget hbudget
  rw [compositorStep_phase, compositorStep_presented, hcycle, vblankBegin_phase, vblankBegin_presented] at hkept
  exact ⟨t, (run_succ_of_step (step_of_spent hleft) k).trans hrun, hkept⟩

/-! Fairness (R356). -/

/-- Within finitely many steps from `s` a state with `P` is reached. -/
def Reaches (s : State) (P : State → Prop) : Prop := ∃ (k : Nat) (t : State), Sys2Proof.core.run k s = .next t ∧ P t

section
variable {s : State} {P Q : State → Prop}

theorem Reaches.here (h : P s) : Reaches s P := ⟨0, s, rfl, h⟩

theorem Reaches.step {t : State} (hstep : step s = .next t) (h : Reaches t P) : Reaches s P := by
  obtain ⟨k, u, hrun, hu⟩ := h
  exact ⟨k + 1, u, (run_succ_of_step hstep k).trans hrun, hu⟩

theorem Reaches.trans (h : Reaches s P) (hPQ : ∀ t, P t → Reaches t Q) : Reaches s Q := by
  obtain ⟨k, t, hrun, ht⟩ := h
  induction k generalizing s with
  | zero =>
    obtain rfl := Host.Outcome.next.inj hrun
    exact hPQ s ht
  | succ k ih =>
    obtain ⟨u, hstep⟩ := step_eq_next s
    exact .step hstep (ih ((run_succ_of_step hstep k).symm.trans hrun))

end

theorem nextAgent_of_halted {s : State} {f : CpuFault} (h : s.halted = some f) : nextAgent s = .compositor := by
  rw [nextAgent, h]

theorem nextAgent_of_running {s : State} (h : s.halted = none) :
    nextAgent s = if s.cpuLeft = 0 then .compositor else .cpu := by
  rw [nextAgent, h]

theorem step_of_compositor {s : State} (h : nextAgent s = .compositor) : step s = .next (compositorStep s) := by
  rw [step, h]

/-- R356: the CPU's budget is finite, so it comes to the compositor's move, in the phase as it is. -/
theorem reaches_compositor (s : State) :
    Reaches s fun t => nextAgent t = .compositor ∧ t.phase = s.phase ∧ t.presented = s.presented := by
  induction hn : s.cpuLeft generalizing s with
  | zero =>
    have hagent : nextAgent s = .compositor := by
      cases hhalted : s.halted with
      | some f => exact nextAgent_of_halted hhalted
      | none => rw [nextAgent_of_running hhalted, if_pos hn]
    exact .here ⟨hagent, rfl, rfl⟩
  | succ n ih =>
    cases hhalted : s.halted with
    | some f => exact .here ⟨nextAgent_of_halted hhalted, rfl, rfl⟩
    | none =>
      obtain ⟨t, hstep, hphase, hpresented, hspent⟩ := step_of_cpu hhalted (by omega)
      rw [← hphase, ← hpresented]
      exact .step hstep (ih t (by omega))

/-- R356: so the step of the cycle that the phase enables is taken. -/
theorem reaches_compositorStep (s : State) : Reaches s fun t =>
    ∃ u, u.phase = s.phase ∧ u.presented = s.presented ∧ t = compositorStep u := by
  refine (reaches_compositor s).trans fun u ⟨hagent, hphase, hpresented⟩ => ?_
  exact .step (step_of_compositor hagent) (.here ⟨u, hphase, hpresented, rfl⟩)

/-- R352: from phase Rendered the next step of the compositor presents a frame. -/
theorem reaches_presented_of_rendered {s : State} (h : s.phase = .rendered) :
    Reaches s fun t => t.presented.length = s.presented.length + 1 := by
  refine (reaches_compositorStep s).trans fun t ⟨u, hphase, hpresented, ht⟩ => .here ?_
  rw [ht, compositorStep_presented, compositorCycle_of_rendered (hphase.trans h), vblankBegin_presented, hpresented,
    List.length_cons]

/-- R350: from phase Idle it renders first. -/
theorem reaches_presented_of_idle {s : State} (h : s.phase = .idle) :
    Reaches s fun t => t.presented.length = s.presented.length + 1 := by
  refine (reaches_compositorStep s).trans fun t ⟨u, hphase, hpresented, ht⟩ => ?_
  have hcycle := compositorCycle_of_idle (hphase.trans h)
  have hkept : t.presented = s.presented := by
    rw [ht, compositorStep_presented, hcycle, render_presented, hpresented]
  rw [← hkept]
  exact reaches_presented_of_rendered (by rw [ht, compositorStep_phase, hcycle, render_phase])

/-- R353: from phase InVBlank it ends vertical blank before. -/
theorem reaches_presented_of_inVBlank {s : State} (h : s.phase = .inVBlank) :
    Reaches s fun t => t.presented.length = s.presented.length + 1 := by
  refine (reaches_compositorStep s).trans fun t ⟨u, hphase, hpresented, ht⟩ => ?_
  have hcycle := compositorCycle_of_inVBlank (hphase.trans h)
  have hkept : t.presented = s.presented := by
    rw [ht, compositorStep_presented, hcycle, vblankEnd_presented, hpresented]
  rw [← hkept]
  exact reaches_presented_of_idle (by rw [ht, compositorStep_phase, hcycle, vblankEnd_phase])

theorem nextAgent_cpu_of_pos {s : State} (h : s.halted = none) (hleft : 0 < s.cpuLeft) : nextAgent s = .cpu := by
  rw [nextAgent_of_running h, if_neg hleft.ne']

/-- R356: where the CPU is due the compositor's step leaves it a budget. -/
theorem compositorStep_cpuLeft_pos {s : State} (h : s.compositorLeft = 0) : 0 < (compositorStep s).cpuLeft := by
  obtain ⟨-, hbound, -⟩ := compositorCycle_schedule s
  exact cpuBudget_pos (hbound.trans h)

/-- R356: until then each of its steps brings the CPU's turn nearer. -/
theorem compositorStep_compositorLeft {s : State} {n : Nat} (h : s.compositorLeft = n + 1) :
    (compositorStep s).compositorLeft = n := by
  obtain ⟨-, hbound, -⟩ := compositorCycle_schedule s
  exact compositorBudget_of_pos (hbound.trans h)

/-- R356: the compositor's steps that may pass before the CPU is due run out. -/
theorem reaches_cpu {s : State} (h : s.halted = none) :
    Reaches s fun t => t.halted = none ∧ nextAgent t = .cpu := by
  induction hn : s.compositorLeft generalizing s with
  | zero =>
    cases hagent : nextAgent s with
    | cpu => exact .here ⟨h, hagent⟩
    | compositor =>
      have hhalted := (compositorStep_halted s).trans h
      have hcpu := nextAgent_cpu_of_pos hhalted (compositorStep_cpuLeft_pos hn)
      exact .step (step_of_compositor hagent) (.here ⟨hhalted, hcpu⟩)
  | succ n ih =>
    cases hagent : nextAgent s with
    | cpu => exact .here ⟨h, hagent⟩
    | compositor =>
      exact .step (step_of_compositor hagent)
        (ih ((compositorStep_halted s).trans h) (compositorStep_compositorLeft hn))

/-- Settles O60: the compositor by the CPU's budget, the frame by the phase, the CPU by the compositor's bound. -/
theorem scheduleIsWeaklyFair : Obligations.ScheduleIsWeaklyFair := by
  refine fun s => ⟨?_, ?_, fun h => reaches_cpu h⟩
  · exact (reaches_compositor s).trans fun t ⟨hagent, _, _⟩ => .here hagent
  · cases hphase : s.phase with
    | idle => exact reaches_presented_of_idle hphase
    | rendered => exact reaches_presented_of_rendered hphase
    | inVBlank => exact reaches_presented_of_inVBlank hphase

end Sys2Proof.Machine
end

section
/-! PROOF. Reset and the loader (70_reset_and_hazards.md): where the image's bytes come to lie, and that the machine
starts with the invariant. -/

namespace Sys2Proof.Machine

/-! The state after reset. -/

/-- Settles O14: each register is at the value `State.powerOn` writes, and PC is the word at the reset vector. -/
theorem resetRegisterValues : Obligations.ResetRegisterValues := by
  intro cpuMem ppuMem m s
  have hpc : s.pc.toNat = 256 * (memGet cpuMem 0xFFFD).toNat + (memGet cpuMem 0xFFFC).toNat := by
    rw [Nat.mul_comm, ← word_toNat]
    rfl
  exact ⟨rfl, rfl, rfl, rfl, rfl, hpc, rfl, rfl, rfl, fun _ => rfl, rfl, rfl, rfl, rfl, rfl, rfl, rfl, rfl, rfl, rfl,
    rfl, rfl, rfl, rfl⟩

/-- R401, R402: the reset values have the invariant, over memories that do. -/
theorem stateInv_powerOn {cpuMem ppuMem : Memory} (m : Mirroring) (hcpu : Memory.wf Config.cpuMemBytes cpuMem = true)
    (hppu : Memory.wf Config.ppuMemBytes ppuMem = true) (hdevices : deviceCellsEmpty cpuMem = true) :
    StateInv (State.powerOn cpuMem ppuMem m) where
  cpuMem_wf := hcpu
  ppuMem_wf := hppu
  oam_wf := rfl
  devices_empty := hdevices
  break_clear := show flagOf .b Config.resetP = false by decide
  unused_set := show flagOf .u Config.resetP = true by decide
  overflow_clear := rfl
  vblank_phase := nofun
  hit_phase := nofun
  presented_frame := nofun

/-- Settles O12: empty memories are canonical. -/
theorem resetHasTheInvariant : Obligations.ResetHasTheInvariant := stateInv_powerOn .horizontal rfl rfl rfl

/-! The image's parts. -/

section
variable {img : List Byte}

/-- R412: the conditions of acceptance, by number. -/
theorem imageValid_iff : imageValid img = true ↔
    16 ≤ img.length ∧ (programBanks img = 1 ∨ programBanks img = 2) ∧ patternBanks img ≤ 1 ∧
      16 + 16384 * programBanks img + 8192 * patternBanks img ≤ img.length := by
  simp only [imageValid, Bool.and_eq_true, decide_eq_true_eq, and_assoc]
  exact Iff.rfl

/-- R412: an accepted image has one bank or two. -/
theorem programBanks_le_two (h : imageValid img = true) : programBanks img ≤ 2 := by
  obtain ⟨-, hbanks, -⟩ := imageValid_iff.mp h
  omega

theorem programBytes_length_le (img : List Byte) : (programBytes img).length ≤ 16384 * programBanks img :=
  List.length_take_le _ _

theorem patternBytes_length_le (img : List Byte) : (patternBytes img).length ≤ 8192 * patternBanks img :=
  List.length_take_le _ _

/-- R411: the program data follow the header. -/
theorem getD_programBytes (img : List Byte) {n : Nat} (h : n < 16384 * programBanks img) :
    (programBytes img).getD n 0 = img.getD (16 + n) 0 := by
  rw [programBytes, headerBytes, Config.prgBankBytes, List.getD_eq_getElem?_getD, List.getElem?_take_of_lt h,
    List.getElem?_drop, ← List.getD_eq_getElem?_getD]

/-- R411: the pattern data follow the program data. -/
theorem getD_patternBytes (img : List Byte) {n : Nat} (h : n < 8192 * patternBanks img) :
    (patternBytes img).getD n 0 = img.getD (16 + 16384 * programBanks img + n) 0 := by
  rw [patternBytes, headerBytes, Config.prgBankBytes, Config.chrBankBytes, List.getD_eq_getElem?_getD,
    List.getElem?_take_of_lt h, List.getElem?_drop, ← List.getD_eq_getElem?_getD]

/-- R414: the vectors are the top of a single bank. -/
theorem getD_vectorBytes (h : programBanks img = 1) (n : Nat) :
    (vectorBytes img).getD n 0 = (programBytes img).getD (0x3FF0 + n) 0 := by
  rw [vectorBytes, if_pos h, List.getD_eq_getElem?_getD, List.getElem?_drop, ← List.getD_eq_getElem?_getD]

theorem vectorBytes_length_le (img : List Byte) : (vectorBytes img).length ≤ 16 := by
  have hlen := programBytes_length_le img
  unfold vectorBytes
  split
  next h =>
    rw [List.length_drop]
    omega
  next => exact Nat.zero_le _

end

/-! The memory that the loader leaves. -/

/-- R413 to R415: past a string that is laid out every byte is the initial one. -/
theorem memGet_memOfBytes_of_le {base a : Nat} {bs : List Byte} (h : base + bs.length ≤ a) :
    memGet (memOfBytes base bs) a = 0 := by
  rw [memGet_memOfBytes, if_pos (by omega), List.getD_eq_default _ _ (by omega)]
  rfl

theorem memGet_memOfBytes_add (base n : Nat) (bs : List Byte) :
    memGet (memOfBytes base bs) (base + n) = bs.getD n 0 := by
  rw [memGet_memOfBytes, if_pos (Nat.le_add_right base n), Nat.add_sub_cancel_left]
  rfl

/-- Outside a string that is laid out no cell is listed. -/
theorem memOfBytes_ne {base a : Nat} {bs : List Byte} (h : a < base ∨ base + bs.length ≤ a) :
    ∀ c ∈ memOfBytes base bs, c.1 ≠ a := by
  intro c hc
  have hinside := mem_memOfBytes hc
  omega

section
variable {img : List Byte}

/-- R413: below the vectors, and everywhere with two banks, CPU memory holds the program data. -/
theorem memGet_imageCpuMem {n : Nat} (h : n < 0xFFF0 ∨ programBanks img ≠ 1) :
    memGet (imageCpuMem img) n = memGet (memOfBytes 0x8000 (programBytes img)) n := by
  obtain hlow | htwo := h
  · exact memGet_append_left n (memOfBytes_ne (.inl hlow))
  · rw [imageCpuMem, vectorBytes, if_neg htwo, memOfBytes, List.append_nil]
    rfl

/-- R413: program byte `n` is at 0x8000 + `n`. -/
theorem memGet_imageCpuMem_program {n : Nat} (hn : n < 16384 * programBanks img) :
    memGet (imageCpuMem img) (0x8000 + n) = img.getD (16 + n) 0 := by
  have hplace : 0x8000 + n < 0xFFF0 ∨ programBanks img ≠ 1 := by omega
  rw [memGet_imageCpuMem hplace, memGet_memOfBytes_add, getD_programBytes img hn]

/-- R413: below 0x8000 and, up to the vectors, past the program data nothing is loaded. -/
theorem memGet_imageCpuMem_initial {n : Nat} (h : n < 0x8000 ∨ 0x8000 + 16384 * programBanks img ≤ n ∧ n < 0xFFF0) :
    memGet (imageCpuMem img) n = 0 := by
  have hlen := programBytes_length_le img
  rw [memGet_imageCpuMem (by omega)]
  obtain hlow | hhigh := h
  · rw [memGet_memOfBytes, if_neg (by omega)]
    rfl
  · exact memGet_memOfBytes_of_le (by omega)

/-- R414: with one bank its last 16 bytes are at 0xFFF0 too. -/
theorem memGet_imageCpuMem_vector (h : programBanks img = 1) {n : Nat} (hn : n < 16) :
    memGet (imageCpuMem img) (0xFFF0 + n) = memGet (imageCpuMem img) (0xBFF0 + n) := by
  have hlen := programBytes_length_le img
  have hpast : ∀ c ∈ memOfBytes Config.programRomBase (programBytes img), c.1 ≠ 0xFFF0 + n :=
    memOfBytes_ne (.inr (by rw [Config.programRomBase]; omega))
  have htop : 0xBFF0 + n = 0x8000 + (0x3FF0 + n) := by omega
  rw [imageCpuMem, memGet_append _ hpast, memGet_memOfBytes_add, getD_vectorBytes h, ← imageCpuMem,
    memGet_imageCpuMem (.inl (by omega)), htop, memGet_memOfBytes_add]

/-- R413, R414: the two copies do not overlap, and the second ends with the address space. -/
theorem imageCpuMem_wf (h : imageValid img = true) : Memory.wf Config.cpuMemBytes (imageCpuMem img) = true := by
  have hbanks := programBanks_le_two h
  have hprogram := programBytes_length_le img
  by_cases hone : programBanks img = 1
  · have hvector := vectorBytes_length_le img
    refine memSorted_append (mid := 0xFFF0) (memSorted_mono (Nat.zero_le _) (memSorted_memOfBytes ?_))
      (memSorted_memOfBytes ?_) (by decide) (by decide)
    · rw [Config.programRomBase]
      omega
    · rw [Config.cpuMemBytes]
      omega
  · rw [imageCpuMem, vectorBytes, if_neg hone, memOfBytes, List.append_nil]
    refine memSorted_mono (Nat.zero_le _) (memSorted_memOfBytes ?_)
    rw [Config.programRomBase, Config.cpuMemBytes]
    omega

/-- R415: a pattern bank fits PPU memory. -/
theorem imagePpuMem_wf (h : imageValid img = true) : Memory.wf Config.ppuMemBytes (imagePpuMem img) = true := by
  obtain ⟨-, -, hpatterns, -⟩ := imageValid_iff.mp h
  have hlen := patternBytes_length_le img
  refine memSorted_memOfBytes ?_
  rw [Config.ppuMemBytes]
  omega

theorem fst_lt_of_memSorted {lo size : Nat} {m : Memory} (hm : memSorted lo size m = true) :
    ∀ c ∈ m, c.1 < size := by
  induction m generalizing lo with
  | nil => exact nofun
  | cons d r ih =>
    simp only [memSorted, Bool.and_eq_true, decide_eq_true_eq] at hm
    obtain ⟨⟨⟨-, hlt⟩, -⟩, hr⟩ := hm
    exact List.forall_mem_cons.mpr ⟨hlt, ih hr⟩

/-- R413, R414: the loader writes no address below 0x8000, so none of a device. -/
theorem deviceCellsEmpty_imageCpuMem (h : imageValid img = true) : deviceCellsEmpty (imageCpuMem img) = true := by
  simp only [deviceCellsEmpty, List.all_eq_true, beq_iff_eq]
  intro c hc
  have hlt : c.1 < 65536 := fst_lt_of_memSorted (imageCpuMem_wf h) c hc
  have hle : 0x8000 ≤ c.1 := by
    obtain hc | hc := List.mem_append.mp hc
    · exact (mem_memOfBytes hc).1
    · exact le_trans (by decide) (mem_memOfBytes hc).1
  have hnat : (BitVec.ofNat 16 c.1).toNat = c.1 := by
    rw [BitVec.toNat_ofNat, Nat.mod_eq_of_lt hlt]
  exact classify_plain (.inr (by omega)) (by omega)

end

/-- R400: an accepted image starts the machine over its own memories. -/
theorem boot_of_valid {img : List Byte} (h : imageValid img = true) :
    boot img = .next (State.powerOn (imageCpuMem img) (imagePpuMem img) (imageMirroring img)) :=
  if_pos h

theorem boot_of_not_valid {img : List Byte} (h : ¬ imageValid img = true) : boot img = .fault .romFormatError :=
  if_neg h

/-- Settles O13: the loaded memories are canonical and lie outside the devices. -/
theorem bootedMachineHasTheInvariant : Obligations.BootedMachineHasTheInvariant := by
  intro img s h
  by_cases hvalid : imageValid img = true
  · obtain rfl := Host.Outcome.next.inj ((boot_of_valid hvalid).symm.trans h)
    exact stateInv_powerOn _ (imageCpuMem_wf hvalid) (imagePpuMem_wf hvalid) (deviceCellsEmpty_imageCpuMem hvalid)
  · rw [boot_of_not_valid hvalid] at h
    contradiction

/-- R416: the mirroring bit is bit 0 of byte 6. -/
theorem imageMirroring_eq_vertical_iff (img : List Byte) :
    imageMirroring img = .vertical ↔ (img.getD 6 0).getLsbD 0 = true := by
  unfold imageMirroring
  split <;> simp_all

/-- Settles O15: acceptance by `imageValid_iff`, and each region of the two memories by the copy that fills it. -/
theorem bootLoadsTheImage : Obligations.BootLoadsTheImage := by
  intro img banks patterns accepted
  refine ⟨fun h => boot_of_not_valid (mt imageValid_iff.mp h), fun h => ?_⟩
  have hvalid : imageValid img = true := imageValid_iff.mpr h
  refine ⟨_, boot_of_valid hvalid, fun n hn => ?low, fun n hn => ?program,
    fun hone => ⟨fun n hn => ?vector, fun n hlo hhi => ?gap⟩, fun n hn => ?pattern, fun n hn => ?rest, ?mirroring, ?pc⟩
  case low => exact memGet_imageCpuMem_initial (.inl hn)
  case program => exact memGet_imageCpuMem_program hn
  case vector => exact memGet_imageCpuMem_vector hone hn
  case gap =>
    have hbanks : programBanks img = 1 := hone
    exact memGet_imageCpuMem_initial (.inr ⟨by omega, hhi⟩)
  case pattern =>
    have hplace := memGet_memOfBytes_add 0 n (patternBytes img)
    rw [Nat.zero_add, getD_patternBytes img hn] at hplace
    exact hplace
  case rest =>
    have hlen := patternBytes_length_le img
    have hpast : 0 + (patternBytes img).length ≤ n := by
      rw [Nat.zero_add]
      exact hlen.trans hn
    exact memGet_memOfBytes_of_le hpast
  case mirroring => exact imageMirroring_eq_vertical_iff img
  case pc =>
    obtain ⟨-, -, -, -, -, hpc, -⟩ := resetRegisterValues (imageCpuMem img) (imagePpuMem img) (imageMirroring img)
    exact hpc

end Sys2Proof.Machine
end

section
/-! PROOF. Shifts and rotates (42_shifts.md): the four functions of a byte as numbers, used on the accumulator and on
memory. -/

namespace Sys2Proof.Machine

/-! The four functions of a byte. -/

/-- R160 to R163: `g` shifts or rotates as `k` does: the result and the carry by number, then `SetZN`. -/
def ShiftsLike (k : Mnemonic) (g : Byte → Byte → Byte × Byte) : Prop :=
  ∀ v p, (g v p).1.toNat = shiftResult k v.toNat (flagOf .c p).toNat ∧
    (g v p).2 = withZN (g v p).1 (withFlag .c (shiftCarry k v.toNat) p)

section
variable (v : Byte)

/-- R160: a shift to the left doubles. -/
theorem shiftLeft_one_toNat : (v <<< 1).toNat = 2 * v.toNat % 256 := by
  rw [BitVec.toNat_shiftLeft, Nat.shiftLeft_eq, Nat.mul_comm, Nat.pow_one]

/-- R161: a shift to the right halves. -/
theorem shiftRight_one_toNat : (v >>> 1).toNat = v.toNat / 2 := by
  rw [BitVec.toNat_ushiftRight, Nat.shiftRight_eq_div_pow, Nat.pow_one]

/-- R160, R162: the bit shifted out at the top. -/
theorem msb_eq_decide_le : v.msb = decide (128 ≤ v.toNat) := BitVec.msb_eq_decide v

/-- R161, R163: the bit shifted out at the bottom. -/
theorem getLsbD_zero_eq_decide : v.getLsbD 0 = decide (v.toNat % 2 = 1) := Nat.testBit_zero v.toNat

/-- R162: a rotate to the left puts the carry in the bit that doubling leaves 0. -/
theorem rotateLeft_toNat (c : Bool) :
    ((v <<< 1) ||| (BitVec.ofBool c).setWidth 8).toNat = (2 * v.toNat + c.toNat) % 256 := by
  have hc : c.toNat < 2 ^ 1 := c.toNat_lt
  have hcarry : ((BitVec.ofBool c).setWidth 8).toNat = c.toNat := by cases c <;> rfl
  have hdouble : 2 * v.toNat % 256 = 2 ^ 1 * (v.toNat % 128) := by omega
  rw [BitVec.toNat_or, shiftLeft_one_toNat, hcarry, hdouble, ← Nat.two_pow_add_eq_or_of_lt hc]
  omega

/-- R163: a rotate to the right puts the carry in the bit that halving leaves 0. -/
theorem rotateRight_toNat (c : Bool) :
    ((v >>> 1) ||| ((BitVec.ofBool c).setWidth 8 <<< 7)).toNat = v.toNat / 2 + 128 * c.toNat := by
  have hhalf : v.toNat / 2 < 2 ^ 7 := by
    have hv := v.isLt
    omega
  have hcarry : ((BitVec.ofBool c).setWidth 8 <<< 7).toNat = 2 ^ 7 * c.toNat := by cases c <;> rfl
  rw [BitVec.toNat_or, shiftRight_one_toNat, hcarry, Nat.or_comm, ← Nat.two_pow_add_eq_or_of_lt hhalf, Nat.add_comm]

end

/-! Each function's carry is the bit named above. -/

theorem shiftsLike_aslByte : ShiftsLike .asl aslByte := fun v p =>
  ⟨shiftLeft_one_toNat v, congrArg (fun x => withZN _ (withFlag .c x p)) (msb_eq_decide_le v)⟩

theorem shiftsLike_lsrByte : ShiftsLike .lsr lsrByte := fun v p =>
  ⟨shiftRight_one_toNat v, congrArg (fun x => withZN _ (withFlag .c x p)) (getLsbD_zero_eq_decide v)⟩

theorem shiftsLike_rolByte : ShiftsLike .rol rolByte := fun v p =>
  ⟨rotateLeft_toNat v _, congrArg (fun x => withZN _ (withFlag .c x p)) (msb_eq_decide_le v)⟩

theorem shiftsLike_rorByte : ShiftsLike .ror rorByte := fun v p =>
  ⟨rotateRight_toNat v _, congrArg (fun x => withZN _ (withFlag .c x p)) (getLsbD_zero_eq_decide v)⟩

/-- R160 to R163: the flags after one of the four. -/
theorem flags_of_p_eq_shift {s t : State} {v : Byte} {x : Bool} (hp : t.p = withZN v (withFlag .c x s.p)) :
    flagOf .c t.p = x ∧ flagOf .z t.p = (v == 0) ∧ flagOf .n t.p = v.msb ∧ FlagsKept [.c, .z, .n] s t := by
  unfold FlagsKept
  rw [hp]
  refine ⟨?_, flagOf_z_withZN v _, flagOf_n_withZN v _, fun f hf => ?_⟩
  · rw [flagOf_withZN_of_notMem v _ _ (by decide), flagOf_withFlag_same]
  · obtain ⟨hc, hzn⟩ := List.ne_and_not_mem_of_not_mem_cons hf
    rw [flagOf_withZN_of_notMem v _ _ hzn, flagOf_withFlag, if_neg hc]

/-! The accumulator. -/

/-- R160 to R163: opcode and instruction of each of the four in the form that shifts A. -/
def accumulatorShifts : List (Mnemonic × Byte × Instr) :=
  [(.asl, 0x0A, .aslAcc), (.lsr, 0x4A, .lsrAcc), (.rol, 0x2A, .rolAcc), (.ror, 0x6A, .rorAcc)]

theorem exec_accumulatorShifts (s : State) : ∀ e ∈ accumulatorShifts,
    EncodesAlone e.2.1 e.2.2 ∧ ∃ g, ShiftsLike e.1 g ∧ exec e.2.2 s = .next (modifyAcc g s) := by
  intro e he
  simp only [accumulatorShifts, List.mem_cons, List.not_mem_nil, or_false] at he
  obtain rfl | rfl | rfl | rfl := he
  · exact ⟨decode_f1 rfl, aslByte, shiftsLike_aslByte, rfl⟩
  · exact ⟨decode_f1 rfl, lsrByte, shiftsLike_lsrByte, rfl⟩
  · exact ⟨decode_f1 rfl, rolByte, shiftsLike_rolByte, rfl⟩
  · exact ⟨decode_f1 rfl, rorByte, shiftsLike_rorByte, rfl⟩

/-- Settles O31: `modifyAcc` writes A, P and PC, by one of the four functions. -/
theorem shiftsOfTheAccumulator : Obligations.ShiftsOfTheAccumulator := by
  intro s e he
  obtain ⟨hencodes, g, hg, hexec⟩ := exec_accumulatorShifts s e he
  obtain ⟨hresult, hp⟩ := hg s.a s.p
  obtain ⟨hc, hz, hn, hkept⟩ := flags_of_p_eq_shift (t := modifyAcc g s) hp
  exact ⟨hencodes, modifyAcc g s, hexec, hresult, hc, hz, hn, hkept, memoryKept_of_eq rfl rfl rfl, rfl⟩

/-! Memory. -/

/-- R164: every form of the four on memory modifies its operand. -/
theorem exec_memoryShifts {k : Mnemonic} (hk : k ∈ [Mnemonic.asl, .lsr, .rol, .ror]) (b : Byte) (w : Word)
    (s : State) : ∃ g, ShiftsLike k g ∧
      ∀ f ∈ formsOf k b w, exec f.instr s = .next (modifyOperand f.operand g s) := by
  simp only [List.mem_cons, List.not_mem_nil, or_false] at hk
  obtain rfl | rfl | rfl | rfl := hk
  · exact ⟨aslByte, shiftsLike_aslByte, List.map_inj_left.mp rfl⟩
  · exact ⟨lsrByte, shiftsLike_lsrByte, List.map_inj_left.mp rfl⟩
  · exact ⟨rolByte, shiftsLike_rolByte, List.map_inj_left.mp rfl⟩
  · exact ⟨rorByte, shiftsLike_rorByte, List.map_inj_left.mp rfl⟩

/-- Settles O32: `exec` is `modifyOperand` with one of the four functions. -/
theorem shiftsOfMemory : Obligations.ShiftsOfMemory := by
  intro b w s k hk f hf
  obtain ⟨g, hg, hexec⟩ := exec_memoryShifts hk b w s
  obtain ⟨hresult, hp⟩ := hg (memRead (effAddr f.operand s).1 s).1 s.p
  obtain ⟨hc, hz, hn, hkept⟩ := flags_of_p_eq_shift ((modifyOperand_p f.operand g s).trans hp)
  refine ⟨encodes_of_mem_formsOf hf, (modified f.operand g s).1, modifyOperand f.operand g s, hexec f hf, hresult, hc,
    hz, hn, hkept, ?_, modifyOperand_plain f.operand g s, fun hdev n => ?_⟩
  · rw [modifyOperand_p, modifyOperand_eq]
  · rw [modifyOperand_device_cpuMem f.operand g s hdev]

end Sys2Proof.Machine
end

section
/-! PROOF. RTS and RTI (44_control_transfer.md, R188, R190, R191): what each pulls, and that it undoes the JSR or the
BRK whose bytes still lie on the stack. -/

namespace Sys2Proof.Machine

/-- R188: RTS takes the word above S, and goes one past it. -/
theorem returnSubroutine_eq (s : State) : returnSubroutine s = { s with
    sp := s.sp + 2
    pc := word (memGet s.cpuMem (stackCell (s.sp + 1))) (memGet s.cpuMem (stackCell (s.sp + 2))) + 1 } := by
  have hsp : s.sp + 2 = s.sp + 1 + 1 := (BitVec.add_assoc s.sp 1 1).symm
  rw [returnSubroutine, pullWord_eq, hsp, stackAddr_toNat, stackAddr_toNat, stackCell, stackCell]

/-- R190, R385: RTI takes the status above S and the word above that. -/
theorem returnFromTrap_stackCell (s : State) : returnFromTrap s = { s with
    sp := s.sp + 3
    p := loadedStatus (memGet s.cpuMem (stackCell (s.sp + 1)))
    pc := word (memGet s.cpuMem (stackCell (s.sp + 2))) (memGet s.cpuMem (stackCell (s.sp + 3))) } := by
  have hsp2 : s.sp + 2 = s.sp + 1 + 1 := (BitVec.add_assoc s.sp 1 1).symm
  have hsp3 : s.sp + 3 = s.sp + 1 + 1 + 1 := by
    rw [← hsp2]
    exact (BitVec.add_assoc s.sp 2 1).symm
  rw [returnFromTrap_eq, hsp3, hsp2]
  simp only [stackAddr_toNat, stackCell]

/-- Settles O36: by the one update that RTS is. -/
theorem rtsReturnsPastTheStackedAddress : Obligations.RtsReturnsPastTheStackedAddress := by
  intro s
  have hexec : exec .rts s = .next (returnSubroutine s) := rfl
  rw [returnSubroutine_eq] at hexec
  refine ⟨decode_f1 rfl, _, hexec, rfl, memoryKept_of_eq rfl rfl rfl, ?_⟩
  rw [BitVec.toNat_add, word_toNat, Nat.mul_comm]
  rfl

/-- Settles O38: by the one update that RTI is. -/
theorem rtiRestoresStatusAndPc : Obligations.RtiRestoresStatusAndPc := by
  intro s
  have hexec : exec .rti s = .next (returnFromTrap s) := rfl
  rw [returnFromTrap_stackCell] at hexec
  refine ⟨decode_f1 rfl, _, hexec, rfl, memoryKept_of_eq rfl rfl rfl, rfl, ?_⟩
  rw [word_toNat, Nat.mul_comm]

/-- R187: the two cells hold, as a word, what was pushed. -/
theorem word_pushWord (v : Word) (s : State) :
    word (memGet (pushWord v s).cpuMem (stackCell (s.sp - 1))) (memGet (pushWord v s).cpuMem (stackCell s.sp)) = v := by
  rw [memGet_pushWord_low, memGet_pushWord_high, word_bytes]

/-- R382: so do they after trap entry. -/
theorem word_takeTrap (resume : Word) (s : State) :
    word (memGet (takeTrap resume irqVector s).cpuMem (stackCell (s.sp - 1)))
      (memGet (takeTrap resume irqVector s).cpuMem (stackCell s.sp)) = resume :=
  (eq_word_of_toNat_eq (stacked_takeTrap_toNat resume s).symm).symm

/-- Settles O39: the word that RTS pulls is the one that JSR pushed, PC + 2. -/
theorem rtsUndoesJsr : Obligations.RtsUndoesJsr := by
  intro w s s' t hjsr hsp hhi hlo
  obtain rfl := Host.Outcome.next.inj hjsr
  have hexec : exec .rts t = .next (returnSubroutine t) := rfl
  have hsp' : t.sp = s.sp - 2 := hsp.trans (pushWord_sp _ s)
  have hsp1 : t.sp + 1 = s.sp - 1 := by bv_omega
  have hsp2 : t.sp + 2 = s.sp := by bv_omega
  have hpulled : word (memGet t.cpuMem (stackCell (s.sp - 1))) (memGet t.cpuMem (stackCell s.sp)) = s.pc + 2 := by
    rw [hhi, hlo]
    exact word_pushWord (s.pc + 2) s
  rw [hexec, returnSubroutine_eq, hsp1, hsp2, hpulled, BitVec.add_assoc]
  rfl

/-- Settles O40: RTI pulls the status and the word that BRK pushed. -/
theorem rtiUndoesBrk : Obligations.RtiUndoesBrk := by
  intro s s' t hb hu hbrk hsp hstack
  obtain rfl := Host.Outcome.next.inj hbrk
  simp only [List.forall_mem_cons, List.not_mem_nil, false_imp_iff, implies_true, and_true] at hstack
  obtain ⟨hhi, hlo, hp⟩ := hstack
  have hexec : exec .rti t = .next (returnFromTrap t) := rfl
  have hsp' : t.sp = s.sp - 3 := by rw [hsp, takeTrap_frame]
  have hsp1 : t.sp + 1 = s.sp - 2 := by bv_omega
  have hsp2 : t.sp + 2 = s.sp - 1 := by bv_omega
  have hsp3 : t.sp + 3 = s.sp := by bv_omega
  have hstatus : loadedStatus (memGet t.cpuMem (stackCell (s.sp - 2))) = s.p := by
    rw [hp, memGet_takeTrap_status, loadedStatus_pushedStatus hb hu]
  have hpulled : word (memGet t.cpuMem (stackCell (s.sp - 1))) (memGet t.cpuMem (stackCell s.sp)) = s.pc + 2 := by
    rw [hhi, hlo, word_takeTrap]
  rw [hexec, returnFromTrap_stackCell, hsp1, hsp2, hsp3, hstatus, hpulled]

end Sys2Proof.Machine
end

section
/-! PROOF. The address space (20_memory.md; 50_ppu_registers.md section 1): storage, and the reads and writes of the
register window, where an address modulo 8 says which register it reaches. -/

namespace Sys2Proof.Machine

/-! Storage. -/

/-- Settles O17: on storage a read is `memGet` and a write is `memSet`. -/
theorem storageReadsTheLatestWrite : Obligations.StorageReadsTheLatestWrite := by
  intro a b v s ha hb t
  have ht : t = { s with cpuMem := memSet s.cpuMem a.toNat v } := memWrite_plain v s ha
  have hget : memGet t.cpuMem b.toNat = if b = a then v else memGet s.cpuMem b.toNat := by
    simp only [ht, memGet_memSet, BitVec.toNat_inj]
  refine ⟨?_, memRead_plain s hb, by rw [ht], fun n hn => ?_⟩
  · rw [memRead_plain t hb, memRead_plain s hb, hget]
  · rw [ht, memGet_memSet_other _ _ hn]

/-! The window by the offset of the address. -/

section
variable {a : Word} {k : Nat} (hlo : 0x2000 ≤ a.toNat) (hhi : a.toNat ≤ 0x3FFF) (hk : a.toNat % 8 = k)
include hlo hhi hk

/-- R271, R286: every mirror reaches the register at its offset. -/
theorem classify_of_offset : classify a = .ppuReg (ppuRegsByOffset.getD k .control) := by
  rw [classify_window hlo hhi, ppuRegAt_eq_getD, hk]

theorem memRead_of_offset (s : State) : memRead a s = readPpuReg (ppuRegsByOffset.getD k .control) s :=
  memRead_ppuReg s (classify_of_offset hlo hhi hk)

theorem memWrite_of_offset (v : Byte) (s : State) :
    memWrite a v s = writePpuReg (ppuRegsByOffset.getD k .control) v s :=
  memWrite_ppuReg v s (classify_of_offset hlo hhi hk)

end

/-- Settles O20: an access to the window is an access to the register at the address modulo 8. -/
theorem windowMirrorsBehaveAlike : Obligations.WindowMirrorsBehaveAlike := by
  intro a b v s hlo hhi hlo' hhi' hmod
  rw [memRead_of_offset hlo hhi hmod, memRead_of_offset hlo' hhi' rfl, memWrite_of_offset hlo hhi hmod,
    memWrite_of_offset hlo' hhi' rfl]
  exact ⟨rfl, rfl⟩

/-! What the registers hold, as numbers. -/

section
variable (s : State)

/-- R275: the three status bits. -/
theorem statusByte_bits : (statusByte s).getLsbD 7 = s.vblank ∧ (statusByte s).getLsbD 6 = s.spr0hit ∧
    (statusByte s).getLsbD 5 = s.sprovf := by
  have hbit (i : Nat) : (statusByte s).getLsbD i = (BitVec.ofBool s.vblank ++ BitVec.ofBool s.spr0hit ++
      BitVec.ofBool s.sprovf ++ Config.statusLowBits s.draws).getLsbD i := rfl
  simp only [hbit, BitVec.getLsbD_append, BitVec.getLsbD_ofBool]
  simp

/-- R275, D20: the five drawn bits. -/
theorem statusByte_low : (statusByte s).toNat % 32 = (Config.statusLowBits s.draws).toNat := by
  have hlow : (statusByte s).setWidth 5 = Config.statusLowBits s.draws := BitVec.setWidth_append_eq_right
  rw [← hlow, BitVec.toNat_setWidth]

/-- R273: the pointer moves on by 1, or by 32, modulo 65536. -/
theorem add_vramDelta_toNat :
    (s.vaddr + vramDelta s).toNat = (s.vaddr.toNat + if s.ppuctrl.getLsbD 2 then 32 else 1) % 65536 := by
  rw [BitVec.toNat_add, vramDelta]
  split <;> rfl

end

/-- Settles O18: each offset by the read of its register. -/
theorem windowReadEffects : Obligations.WindowReadEffects := by
  intro a s hlo hhi r
  refine ⟨fun hk => ?status, fun hk => ?oamData, fun hk => ?vramData, fun hk => ?writeOnly⟩
  case status =>
    have hr : r = readPpuReg .status s := memRead_of_offset hlo hhi hk s
    obtain ⟨hvblank, hhit, hovf⟩ := statusByte_bits s
    rw [hr]
    exact ⟨hvblank, hhit, hovf, statusByte_low s, rfl⟩
  case oamData => exact memRead_of_offset hlo hhi hk s
  case vramData =>
    have hr : r = readPpuReg .vramData s := memRead_of_offset hlo hhi hk s
    rw [hr]
    exact ⟨rfl, add_vramDelta_toNat s, rfl⟩
  case writeOnly =>
    simp only [List.mem_cons, List.not_mem_nil, or_false] at hk
    obtain hk | hk | hk | hk | hk := hk <;> exact memRead_of_offset hlo hhi hk s

/-! The write toggle. -/

section
variable (v : Byte) (s : State)

/-- R281: the pointer after a write of the address port: the high byte first, the other byte kept. -/
theorem writePpuReg_vramAddr : writePpuReg .vramAddr v s =
    { s with vaddr := (if s.w then word v (highByte s.vaddr) else word (lowByte s.vaddr) v), w := !s.w } := by
  rw [writePpuReg]
  split
  next hw => rw [hw]; rfl
  next hw => rw [Bool.not_eq_true] at hw; rw [hw]; rfl

theorem writePpuReg_vramAddr_toNat : (writePpuReg .vramAddr v s).vaddr.toNat =
    if s.w then 256 * (s.vaddr.toNat / 256) + v.toNat else 256 * v.toNat + s.vaddr.toNat % 256 := by
  rw [writePpuReg_vramAddr]
  split <;> simp only [word_toNat, highByte_toNat, lowByte_toNat, Nat.mul_comm]

end

/-- Settles O19: each offset by the write of its register. -/
theorem windowWriteEffects : Obligations.WindowWriteEffects := by
  intro a v s hlo hhi t
  refine ⟨fun hk => ?control, fun hk => ?mask, fun hk => ?status, fun hk => ?oamAddr, fun hk => ?oamData,
    fun hk => ?scroll, fun hk => ?vramAddr, fun hk => ?vramData⟩
  case control => exact memWrite_of_offset hlo hhi hk v s
  case mask => exact memWrite_of_offset hlo hhi hk v s
  case status => exact memWrite_of_offset hlo hhi hk v s
  case oamAddr => exact memWrite_of_offset hlo hhi hk v s
  case oamData =>
    have ht : t = writePpuReg .oamData v s := memWrite_of_offset hlo hhi hk v s
    rw [ht]
    exact ⟨rfl, BitVec.toNat_add s.oamaddr 1, memGet_memSet _ _ _⟩
  case scroll => exact memWrite_of_offset hlo hhi hk v s
  case vramAddr =>
    have ht : t = writePpuReg .vramAddr v s := memWrite_of_offset hlo hhi hk v s
    rw [ht]
    refine ⟨?_, writePpuReg_vramAddr_toNat v s⟩
    rw [writePpuReg_vramAddr]
  case vramData =>
    have ht : t = writePpuReg .vramData v s := memWrite_of_offset hlo hhi hk v s
    rw [ht]
    exact ⟨rfl, add_vramDelta_toNat s, memGet_memSet _ _ _⟩

/-! The three ports of the toggle at their base addresses. -/

section
variable (v : Byte) (s : State)

theorem memRead_statusPort : memRead 0x2002 s = readPpuReg .status s := memRead_ppuReg s (by decide)

theorem memWrite_oamDataPort : memWrite 0x2004 v s = writePpuReg .oamData v s := memWrite_ppuReg v s (by decide)

theorem memWrite_scrollPort : memWrite 0x2005 v s = writePpuReg .scroll v s := memWrite_ppuReg v s (by decide)

theorem memWrite_addressPort : memWrite 0x2006 v s = writePpuReg .vramAddr v s := memWrite_ppuReg v s (by decide)

end

/-- R277: with W = 0 a scroll write is the first of its pair. -/
theorem writePpuReg_scroll_first (v : Byte) {s : State} (h : s.w = false) :
    writePpuReg .scroll v s = { s with scrollx := v, w := true } := by
  rw [writePpuReg, h]
  rfl

/-- R281: with W = 0 an address write sets the high byte. -/
theorem writePpuReg_vramAddr_first (v : Byte) {s : State} (h : s.w = false) :
    writePpuReg .vramAddr v s = { s with vaddr := word (lowByte s.vaddr) v, w := true } := by
  rw [writePpuReg, h]
  rfl

/-- R281: with W = 1 an address write sets the low byte. -/
theorem writePpuReg_vramAddr_second (v : Byte) {s : State} (h : s.w = true) :
    writePpuReg .vramAddr v s = { s with vaddr := word v (highByte s.vaddr), w := false } := by
  rw [writePpuReg, h]
  rfl

/-- Settles O22: in each row of accesses the toggle says whether a write is the first or the second of its pair. -/
theorem writeToggleIsShared : Obligations.WriteToggleIsShared := by
  intro hi lo s hw pair crossed broken
  have hpair : pair = { s with vaddr := word lo hi, w := false } := by
    simp only [pair, memWrite_addressPort]
    rw [writePpuReg_vramAddr_first hi hw, writePpuReg_vramAddr_second lo rfl, highByte_word]
  have hcrossed : crossed = { s with scrollx := hi, vaddr := word lo (highByte s.vaddr), w := false } := by
    simp only [crossed, memWrite_addressPort, memWrite_scrollPort]
    rw [writePpuReg_scroll_first hi hw, writePpuReg_vramAddr_second lo rfl]
  have hbroken : broken = { s with
      vaddr := word (lowByte s.vaddr) lo, w := true, vblank := false, draws := s.draws + 1 } := by
    simp only [broken, memWrite_addressPort, memRead_statusPort]
    rw [writePpuReg_vramAddr_first hi hw, readPpuReg, writePpuReg_vramAddr_first lo rfl, lowByte_word]
  rw [hpair, hcrossed, hbroken]
  refine ⟨⟨?_, rfl⟩, ⟨rfl, ?_, rfl⟩, ?_, rfl⟩
  · rw [word_toNat, Nat.mul_comm]
  · rw [word_toNat, highByte_toNat, Nat.mul_comm]
  · rw [word_toNat, lowByte_toNat, Nat.mul_comm]

/-! The OAM data port (R278). -/

/-- The bytes written to the OAM data port one after the other. -/
def writeOam (bs : List Byte) (s : State) : State := bs.foldl (fun u v => memWrite 0x2004 v u) s

theorem writeOam_concat (bs : List Byte) (v : Byte) (s : State) :
    writeOam (bs ++ [v]) s = writePpuReg .oamData v (writeOam bs s) := by
  rw [writeOam, List.foldl_concat, memWrite_oamDataPort, writeOam]

/-- R278: such writes change OAM and OAMADDR alone. -/
theorem writeOam_frame (bs : List Byte) (s : State) :
    writeOam bs s = { s with oam := (writeOam bs s).oam, oamaddr := (writeOam bs s).oamaddr } := by
  induction bs using List.reverseRecOn with
  | nil => rfl
  | append_singleton bs v ih =>
    rw [writeOam_concat, ih]
    rfl

/-- R278: OAMADDR advances by one with each, modulo 256. -/
theorem writeOam_oamaddr (bs : List Byte) (s : State) :
    (writeOam bs s).oamaddr.toNat = (s.oamaddr.toNat + bs.length) % 256 := by
  induction bs using List.reverseRecOn with
  | nil => exact (Nat.mod_eq_of_lt s.oamaddr.isLt).symm
  | append_singleton bs v ih =>
    have hnext : (writeOam (bs ++ [v]) s).oamaddr.toNat = ((writeOam bs s).oamaddr.toNat + 1) % 256 := by
      rw [writeOam_concat]
      exact BitVec.toNat_add _ 1
    rw [hnext, ih, List.length_append, List.length_singleton, Nat.mod_add_mod, Nat.add_assoc]

/-- R278: from OAMADDR 0 up to 256 bytes lie in OAM in the order in which they were written. -/
theorem memGet_writeOam {bs : List Byte} {s : State} (hs : s.oamaddr = 0) (hlen : bs.length ≤ 256) {n : Nat}
    (hn : n < bs.length) : memGet (writeOam bs s).oam n = bs.getD n 0 := by
  induction bs using List.reverseRecOn with
  | nil => contradiction
  | append_singleton bs v ih =>
    rw [List.length_append, List.length_singleton] at hlen hn
    have haddr : (writeOam bs s).oamaddr.toNat = bs.length := by
      rw [writeOam_oamaddr, hs, BitVec.ofNat_eq_ofNat, BitVec.toNat_zero, Nat.zero_add, Nat.mod_eq_of_lt hlen]
    have hget : memGet (writeOam (bs ++ [v]) s).oam n = if n = bs.length then v else memGet (writeOam bs s).oam n := by
      rw [writeOam_concat, ← haddr]
      exact memGet_memSet _ _ _ _
    rw [hget]
    split
    next hlast => rw [hlast, List.getD_append_right _ _ _ _ le_rfl, Nat.sub_self, List.getD_cons_zero]
    next hbefore =>
      have hlt : n < bs.length := by omega
      rw [ih (by omega) hlt, List.getD_append _ _ _ _ hlt]

/-- Settles O21: the bytes by `memGet_writeOam`, and OAMADDR has gone once round. -/
theorem oamFillsWithTwoHundredFiftySixWrites : Obligations.OamFillsWithTwoHundredFiftySixWrites := by
  intro bs s hlen hs t
  have ht : t = writeOam bs s := rfl
  have haddr : (writeOam bs s).oamaddr = 0 := by
    apply BitVec.eq_of_toNat_eq
    rw [writeOam_oamaddr, hs, hlen]
    rfl
  rw [ht]
  refine ⟨haddr, fun n hn => memGet_writeOam hs hlen.le (hlen ▸ hn), ?_⟩
  have hframe := writeOam_frame bs s
  rwa [haddr, ← hs] at hframe

end Sys2Proof.Machine
end

section
/-! PROOF. The controller port (50_ppu_registers.md section 2, R300 to R302): a strobed read reloads, any other shifts
the next button down and a 1 in at the top. -/

namespace Sys2Proof.Machine

section
variable (s : State)

theorem memRead_controllerPort : memRead 0x4016 s = readController s := memRead_controller s classify_port

theorem memWrite_controllerPort (v : Byte) : memWrite 0x4016 v s = writeController v s := memWrite_controller v s classify_port

end

section
variable (b : Byte)

/-- R301: bit 0 alone is read. -/
theorem and_one_toNat : (b &&& 1).toNat = b.toNat % 2 := by
  rw [BitVec.toNat_and]
  exact Nat.and_one_is_mod b.toNat

/-- R9: a bit as a number. -/
theorem getLsbD_toNat (i : Nat) : (b.getLsbD i).toNat = b.toNat / 2 ^ i % 2 :=
  Nat.toNat_testBit b.toNat i

/-- R302: the byte read is bit 0 as a number. -/
theorem and_one_toNat_eq_bit : (b &&& 1).toNat = (b.getLsbD 0).toNat := by
  rw [and_one_toNat, getLsbD_toNat, Nat.pow_zero, Nat.div_one]

/-- R301: the shift register after a read, as a number: the 1 enters as a carry does in ROR. -/
theorem shiftIn_toNat : ((b >>> 1) ||| 0x80).toNat = b.toNat / 2 + 128 := rotateRight_toNat b true

/-- R301: the shift register after a read, bit by bit. -/
theorem shiftIn_getLsbD {i : Nat} (hi : i < 8) :
    ((b >>> 1) ||| 0x80).getLsbD i = if i = 7 then true else b.getLsbD (i + 1) := by
  interval_cases i <;> simp [Nat.add_comm]

end

/-- R301: a read with STROBE = 0. -/
theorem readController_of_not_strobe {s : State} (h : s.strobe = false) :
    readController s = (s.shift &&& 1, { s with shift := (s.shift >>> 1) ||| 0x80 }) := by
  rw [readController, h]
  rfl

/-- R301: a read with STROBE = 1. -/
theorem readController_of_strobe {s : State} (h : s.strobe = true) :
    readController s = ((reloadShift s).shift &&& 1, reloadShift s) := by
  rw [readController, h]
  rfl

/-- Settles O23: each clause is the write, or one of the two reads, as numbers. -/
theorem controllerPortAccesses : Obligations.ControllerPortAccesses := by
  intro v s
  rw [memWrite_controllerPort, memRead_controllerPort]
  refine ⟨?write, fun h => ?strobed, fun h => ?shifted⟩
  case write =>
    unfold writeController
    split
    next hbit => rw [hbit]; rfl
    next hbit => rw [Bool.not_eq_true] at hbit; rw [hbit]
  case strobed =>
    rw [readController_of_strobe h]
    exact ⟨and_one_toNat _, rfl⟩
  case shifted =>
    rw [readController_of_not_strobe h]
    exact ⟨and_one_toNat _, rfl, shiftIn_toNat _⟩

/-- The state after `n` reads of the controller port. -/
def readPort (n : Nat) (s : State) : State := Nat.repeat (fun u => (memRead 0x4016 u).2) n s

theorem readPort_strobe (n : Nat) (s : State) : (readPort n s).strobe = s.strobe := by
  induction n with
  | zero => rfl
  | succ n ih => exact (memRead_strobe _ _).trans ih

/-- R302: after `n` reads the buttons have moved down by `n` places, and above them stand ones. -/
theorem readPort_shift {s : State} (h : s.strobe = false) (n : Nat) {i : Nat} (hi : i < 8) :
    (readPort n s).shift.getLsbD i = if n + i < 8 then s.shift.getLsbD (n + i) else true := by
  induction n generalizing i with
  | zero => rw [Nat.zero_add, if_pos hi]; rfl
  | succ n ih =>
    have hstep : (readPort (n + 1) s).shift = (readPort n s).shift >>> 1 ||| 0x80 := by
      have hread : readPort (n + 1) s = (memRead 0x4016 (readPort n s)).2 := rfl
      rw [hread, memRead_controllerPort, readController_of_not_strobe ((readPort_strobe n s).trans h)]
    rw [hstep, shiftIn_getLsbD _ hi]
    split
    next htop => rw [if_neg (by omega)]
    next hbelow => rw [ih (by omega), Nat.add_assoc, Nat.add_comm 1 i]

/-- Settles O24: the read gives bit 0, where the buttons have moved down. -/
theorem controllerReadsSerially : Obligations.ControllerReadsSerially := by
  intro s n h t
  have ht : t = readPort n s := rfl
  rw [ht, memRead_controllerPort, readController_of_not_strobe ((readPort_strobe n s).trans h), and_one_toNat_eq_bit,
    readPort_shift h n (by decide), Nat.add_zero]
  split <;> rfl

end Sys2Proof.Machine
end

section
/-! PROOF. The tile/palette decoder (51_tile_palette_decoder.md): a tile pixel, a colour and the decoder's output as
numbers. -/

namespace Sys2Proof.Machine

/-- R9: a bit by the number. -/
theorem getLsbD_eq_true_iff {n : Nat} (b : BitVec n) (i : Nat) : b.getLsbD i = true ↔ b.toNat / 2 ^ i % 2 = 1 := by
  rw [BitVec.getLsbD, Nat.testBit_eq_decide_div_mod_eq, decide_eq_true_iff]

theorem toNat_eq_zero_iff {n : Nat} (b : BitVec n) : b.toNat = 0 ↔ b = 0 := by
  rw [← BitVec.toNat_inj, BitVec.ofNat_eq_ofNat, BitVec.toNat_zero]

/-- R312, R313: the high plane's bit counts twice, the low plane's once. -/
theorem tilePixel_toNat (mem : Memory) (table : Nat) (t : Byte) (c r : Nat) : (tilePixel mem table t c r).toNat =
    2 * ((highPlane mem table t r).toNat / 2 ^ (7 - c) % 2) + (lowPlane mem table t r).toNat / 2 ^ (7 - c) % 2 := by
  have hpair (hi lo : Bool) : (BitVec.ofBool hi ++ BitVec.ofBool lo).toNat = 2 * hi.toNat + lo.toNat := by
    cases hi <;> cases lo <;> rfl
  rw [tilePixel, hpair, getLsbD_toNat, getLsbD_toNat]

/-- Settles O51: the planes are read modulo 16384, and a zero byte has no bit. -/
theorem tilePixelCombinesTwoPlanes : Obligations.TilePixelCombinesTwoPlanes := by
  intro mem table t c r _ _ lo hi
  have hpixel : (tilePixel mem table t c r).toNat = 2 * (hi.toNat / 2 ^ (7 - c) % 2) + lo.toNat / 2 ^ (7 - c) % 2 :=
    tilePixel_toNat mem table t c r
  refine ⟨hpixel, fun hzero => ?_⟩
  rw [hpixel, hzero, BitVec.ofNat_eq_ofNat, BitVec.toNat_zero, Nat.zero_div, Nat.zero_mod, Nat.add_zero]

/-- R72: below 16384 an address of PPU memory is its own place. -/
theorem ppuRead_of_lt (mem : Memory) {a : Nat} (h : a < 16384) : ppuRead mem a = memGet mem a := by
  rw [ppuRead, ppuIndex, Config.ppuMemBytes, Nat.mod_eq_of_lt h]

/-- R315: a colour is the palette RAM's byte modulo 64. -/
theorem colour_toNat (mem : Memory) {pi : Nat} (h : pi < 256) :
    (colour mem pi).toNat = (memGet mem (0x3F00 + pi)).toNat % 64 := by
  rw [colour, paletteBase, ppuRead_of_lt mem (by omega), BitVec.toNat_setWidth]

/-- R314: a background pixel always has an entry, entry 0 where its index is 0. -/
theorem paletteIndex_background (g ci : BitVec 2) :
    paletteIndex .background g ci = some (if ci.toNat = 0 then 0 else 4 * g.toNat + ci.toNat) := by
  simp only [paletteIndex, toNat_eq_zero_iff]
  split <;> rfl

/-- R316: a sprite pixel has one where its index is not 0. -/
theorem paletteIndex_sprite (g ci : BitVec 2) :
    paletteIndex .sprite g ci = if ci.toNat = 0 then none else some (16 + 4 * g.toNat + ci.toNat) := by
  simp only [paletteIndex, toNat_eq_zero_iff]

/-- Settles O52: the palette index by layer, and its colour as a number. -/
theorem tileColourLooksUpThePalette : Obligations.TileColourLooksUpThePalette := by
  intro mem table t g c r ci entry
  have hg : g.toNat < 4 := g.isLt
  have hci : ci < 4 := (tilePixel mem table t c r).isLt
  have hentry {pi : Nat} (h : pi < 256) : (colour mem pi).toNat = entry pi := colour_toNat mem h
  refine ⟨?background, ?sprite, fun layer hc hr => ?grid⟩
  case background =>
    rw [tileColour, paletteIndex_background, Option.map_some, Option.map_some, hentry (by split <;> omega)]
    exact congrArg some (apply_ite entry _ _ _)
  case sprite =>
    rw [tileColour, paletteIndex_sprite]
    by_cases hzero : ci = 0
    · rw [if_pos hzero, if_pos hzero]
      rfl
    · rw [if_neg hzero, if_neg hzero, Option.map_some, Option.map_some, hentry (by omega)]
  case grid => rw [tileGrid, Vector.getElem_ofFn, Vector.getElem_ofFn]

end Sys2Proof.Machine
end

section
/-! PROOF. The picture (52_frame_compositor.md, R330 to R344, R350): background and sprites as numbers, the choice of
the sprite, the hit, and that nothing but the snapshot enters. -/

namespace Sys2Proof.Machine

section
variable (q : Snapshot)

/-! The background at a pixel of the frame. -/

section
variable {x y : Nat} (hx : x < 256) (hy : y < 240)
include hx hy

/-- R331: the tile index lies in the name table at 0x2000. -/
theorem bgTile_eq : bgTile q x y = memGet q.mem (0x2000 + 32 * (y / 8) + x / 8) :=
  ppuRead_of_lt q.mem (by omega)

/-- R332: the palette group is two bits of the byte of a cell of 32 by 32 pixels. -/
theorem bgGroup_toNat : (bgGroup q x y).toNat =
    (memGet q.mem (0x23C0 + 8 * (y / 32) + x / 32)).toNat / 2 ^ (2 * (x / 16 % 2) + 4 * (y / 16 % 2)) % 4 := by
  have hcell (n : Nat) : n / 8 / 4 = n / 32 := Nat.div_div_eq_div_mul n 8 4
  have hquadrant (n : Nat) : n / 8 / 2 = n / 16 := Nat.div_div_eq_div_mul n 8 2
  have hattr : ppuRead q.mem (0x23C0 + 8 * (y / 32) + x / 32) = memGet q.mem (0x23C0 + 8 * (y / 32) + x / 32) :=
    ppuRead_of_lt q.mem (by omega)
  simp only [bgGroup, hcell, hquadrant, hattr, BitVec.toNat_setWidth, BitVec.toNat_ushiftRight,
    Nat.shiftRight_eq_div_pow, Nat.reducePow]

end

theorem bgOpaque_iff (x y : Nat) : bgOpaque q x y = true ↔ (bgIndex q x y).toNat ≠ 0 := by
  rw [bgOpaque, bne_iff_ne, Ne, Ne, toNat_eq_zero_iff]

/-- R334: entry 0 where the index is 0. -/
theorem bgColour_toNat (x y : Nat) : (bgColour q x y).toNat = (memGet q.mem (0x3F00 +
    if (bgIndex q x y).toNat = 0 then 0 else 4 * (bgGroup q x y).toNat + (bgIndex q x y).toNat)).toNat % 64 := by
  have hindex := (bgIndex q x y).isLt
  have hgroup := (bgGroup q x y).isLt
  simp only [bgColour, toNat_eq_zero_iff]
  split
  · exact colour_toNat q.mem (by decide)
  · exact colour_toNat q.mem (by omega)

/-! A sprite record. -/

/-- R335: the rectangle, without wrap. -/
theorem inSprite_iff (r : Sprite) (x y : Nat) : inSprite r x y = true ↔
    r.x.toNat ≤ x ∧ x ≤ r.x.toNat + 7 ∧ r.y.toNat ≤ y ∧ y ≤ r.y.toNat + 7 := decide_eq_true_iff

/-- R337: bits 6 and 7 of the record's third byte turn the tile round. -/
theorem spriteIndex_eq (r : Sprite) (x y : Nat) : spriteIndex q r x y =
    tilePixel q.mem (patternTable q.sprPt) r.tile
      (if r.attr.toNat / 64 % 2 = 1 then 7 - (x - r.x.toNat) else x - r.x.toNat)
      (if r.attr.toNat / 128 % 2 = 1 then 7 - (y - r.y.toNat) else y - r.y.toNat) := by
  have hflipH : r.attr.getLsbD 6 = true ↔ r.attr.toNat / 64 % 2 = 1 := getLsbD_eq_true_iff r.attr 6
  have hflipV : r.attr.getLsbD 7 = true ↔ r.attr.toNat / 128 % 2 = 1 := getLsbD_eq_true_iff r.attr 7
  simp only [spriteIndex, hflipH, hflipV]

/-- R337, R338: a sprite's colours are the upper half of the palette RAM. -/
theorem spriteColour_toNat (i x y : Nat) : (spriteColour q i x y).toNat =
    (memGet q.mem (0x3F00 + (16 + 4 * ((memGet q.oam (4 * i + 2)).toNat % 4) +
      (spriteIndex q (spriteAt q i) x y).toNat))).toNat % 64 := by
  have hindex := (spriteIndex q (spriteAt q i) x y).isLt
  have hgroup : (spriteGroup (spriteAt q i)).toNat = (memGet q.oam (4 * i + 2)).toNat % 4 := BitVec.toNat_setWidth ..
  rw [spriteColour, hgroup, colour_toNat q.mem (by omega)]

theorem spriteOpaque_iff (i x y : Nat) : spriteOpaque q i x y = true ↔
    inSprite (spriteAt q i) x y = true ∧ (spriteIndex q (spriteAt q i) x y).toNat ≠ 0 := by
  rw [spriteOpaque, Bool.and_eq_true, bne_iff_ne, Ne, Ne, toNat_eq_zero_iff]

theorem spriteBehind_iff (i : Nat) :
    spriteBehind (spriteAt q i) = true ↔ (memGet q.oam (4 * i + 2)).toNat / 32 % 2 = 1 :=
  getLsbD_eq_true_iff (memGet q.oam (4 * i + 2)) 5

/-! The choice of the sprite (R339). -/

section
variable {x y : Nat}

theorem selectedSprite_eq_none (h : ∀ i, i < 64 → spriteOpaque q i x y = false) : selectedSprite q x y = none := by
  refine List.find?_range_eq_none.mpr fun i hi => ?_
  rw [h i hi]
  rfl

theorem selectedSprite_eq_some {i : Nat} (hi : i < 64) (h : spriteOpaque q i x y = true)
    (hlower : ∀ j, j < i → spriteOpaque q j x y = false) : selectedSprite q x y = some i := by
  refine List.find?_range_eq_some.mpr ⟨h, List.mem_range.mpr hi, fun j hj => ?_⟩
  rw [hlower j hj]
  rfl

/-- R340, R341: the pixel by the record that is chosen. -/
theorem pixel_of_none (h : selectedSprite q x y = none) : pixel q x y = bgColour q x y := by
  rw [pixel, h]

theorem pixel_of_some {i : Nat} (h : selectedSprite q x y = some i) : pixel q x y =
    if spriteBehind (spriteAt q i) && bgOpaque q x y then bgColour q x y else spriteColour q i x y := by
  rw [pixel, h]

end

end

/-- Settles O53: background and record each by its own laws, the pixel by the record that is chosen. -/
theorem pixelTakesTheLowestOpaqueSprite : Obligations.PixelTakesTheLowestOpaqueSprite := by
  intro q x y
  refine ⟨fun hx hy => ?background, fun i _ => ?record, fun h => pixel_of_none q (selectedSprite_eq_none q h),
    fun i hi h hlower => ?pixel⟩
  case background =>
    intro tile attr g ci
    have hci : (bgIndex q x y).toNat = ci := by rw [bgIndex, bgTile_eq q hx hy]; rfl
    have hg : (bgGroup q x y).toNat = g := bgGroup_toNat q hx hy
    rw [bgOpaque_iff, bgColour_toNat, hci, hg]
    exact ⟨rfl, Iff.rfl, rfl⟩
  case record =>
    intro top attr left inside c r ci
    have hci : (spriteIndex q (spriteAt q i) x y).toNat = ci := by rw [spriteIndex_eq]; rfl
    have hinside : inSprite (spriteAt q i) x y = true ↔ inside := inSprite_iff (spriteAt q i) x y
    rw [spriteOpaque_iff, spriteColour_toNat, hci, hinside]
    exact ⟨Iff.rfl, fun _ => ⟨rfl, rfl⟩, Iff.rfl⟩
  case pixel =>
    rw [pixel_of_some q (selectedSprite_eq_some q hi h hlower)]
    simp only [Bool.and_eq_true, spriteBehind_iff]

/-! The sprite-zero hit (R342). -/

/-- R342: the hit is looked for in the record's rectangle alone, which loses no pixel. -/
theorem spriteZeroHit_iff (q : Snapshot) : spriteZeroHit q = true ↔ ∃ x y, x < 256 ∧ y < 240 ∧
    inSprite (spriteAt q 0) x y = true ∧ spriteIndex q (spriteAt q 0) x y ≠ 0 ∧ bgOpaque q x y = true := by
  simp only [spriteZeroHit, List.any_eq_true, List.mem_range, Bool.and_eq_true, decide_eq_true_iff, spriteOpaque,
    bne_iff_ne]
  constructor
  · rintro ⟨row, -, col, -, ⟨⟨hx, hy⟩, hin, hne⟩, hbg⟩
    exact ⟨_, _, hx, hy, hin, hne, hbg⟩
  · rintro ⟨x, y, hx, hy, hin, hne, hbg⟩
    obtain ⟨hleft, hright, htop, hbottom⟩ := (inSprite_iff _ x y).mp hin
    obtain ⟨col, rfl⟩ := Nat.exists_eq_add_of_le hleft
    obtain ⟨row, rfl⟩ := Nat.exists_eq_add_of_le htop
    exact ⟨row, by omega, col, by omega, ⟨⟨hx, hy⟩, hin, hne⟩, hbg⟩

/-- R335, R44: a record is its four bytes of OAM. -/
theorem spriteAt_congr {q q' : Snapshot} {i : Nat}
    (h : ∀ n, 4 * i ≤ n → n < 4 * i + 4 → memGet q.oam n = memGet q'.oam n) : spriteAt q i = spriteAt q' i := by
  rw [spriteAt, spriteAt, h (4 * i) (by omega) (by omega), h (4 * i + 1) (by omega) (by omega),
    h (4 * i + 2) (by omega) (by omega), h (4 * i + 3) (by omega) (by omega)]

/-- Settles O54: by `spriteZeroHit_iff`, in which OAM stands in record 0 alone. -/
theorem spriteZeroHitIsAnOverlapInTheFrame : Obligations.SpriteZeroHitIsAnOverlapInTheFrame := by
  refine fun q => ⟨spriteZeroHit_iff q, fun oam h => ?_⟩
  have hrecord : spriteAt { q with oam := oam } 0 = spriteAt q 0 := spriteAt_congr fun n _ hn => h n hn
  rw [Bool.eq_iff_iff, spriteZeroHit_iff, spriteZeroHit_iff, hrecord]
  exact Iff.rfl

/-! Render (R350). -/

/-- R350: pixel by pixel the frame is that of the snapshot. -/
theorem frameOf_getElem (q : Snapshot) {x y : Nat} (hx : x < 256) (hy : y < 240) :
    ((frameOf q)[y])[x] = pixel q x y := by
  simp only [frameOf, Vector.getElem_ofFn]

/-- Settles O55: in phase Idle the cycle step is `render`. -/
theorem renderWritesEveryPixel : Obligations.RenderWritesEveryPixel := by
  intro s hphase t
  have ht : t = render s := compositorCycle_of_idle hphase
  rw [ht, render_spr0hit, Bool.or_eq_true]
  exact ⟨rfl, fun x y hx hy => frameOf_getElem (snapshotOf s) hx hy, Iff.rfl, rfl⟩

/-! What a picture depends on (R344). -/

/-- R330: snapshots whose memories read alike, with the same two pattern-table bits. -/
structure ReadAlike (q q' : Snapshot) : Prop where
  ppuRead : ppuRead q.mem = ppuRead q'.mem
  oam : ∀ n, n < 256 → memGet q.oam n = memGet q'.oam n
  bgPt : q.bgPt = q'.bgPt
  sprPt : q.sprPt = q'.sprPt

namespace ReadAlike

variable {q q' : Snapshot} (h : ReadAlike q q')
include h

theorem colour : colour q.mem = colour q'.mem := by
  funext pi
  rw [Machine.colour, Machine.colour, h.ppuRead]

theorem tilePixel : tilePixel q.mem = tilePixel q'.mem := by
  funext table t c r
  rw [Machine.tilePixel, Machine.tilePixel, highPlane, highPlane, lowPlane, lowPlane, h.ppuRead]

theorem bgIndex : bgIndex q = bgIndex q' := by
  funext x y
  rw [Machine.bgIndex, Machine.bgIndex, bgTile, bgTile, h.tilePixel, h.bgPt, h.ppuRead]

theorem bgOpaque : bgOpaque q = bgOpaque q' := by
  funext x y
  rw [Machine.bgOpaque, Machine.bgOpaque, h.bgIndex]

theorem bgColour : bgColour q = bgColour q' := by
  funext x y
  rw [Machine.bgColour, Machine.bgColour, bgGroup, bgGroup, h.bgIndex, h.colour, h.ppuRead]

theorem spriteIndex : spriteIndex q = spriteIndex q' := by
  funext r x y
  rw [Machine.spriteIndex, Machine.spriteIndex, h.tilePixel, h.sprPt]

/-- R44: the 64 records are the 256 bytes of OAM. -/
theorem spriteAt {i : Nat} (hi : i < 64) : spriteAt q i = spriteAt q' i :=
  spriteAt_congr fun n _ hn => h.oam n (by omega)

theorem spriteOpaque {i : Nat} (hi : i < 64) (x y : Nat) : spriteOpaque q i x y = spriteOpaque q' i x y := by
  rw [Machine.spriteOpaque, Machine.spriteOpaque, h.spriteAt hi, h.spriteIndex]

theorem spriteColour {i : Nat} (hi : i < 64) (x y : Nat) : spriteColour q i x y = spriteColour q' i x y := by
  rw [Machine.spriteColour, Machine.spriteColour, h.spriteAt hi, h.spriteIndex, h.colour]

theorem selectedSprite (x y : Nat) : selectedSprite q x y = selectedSprite q' x y :=
  List.find?_congr fun _ hi => h.spriteOpaque (List.mem_range.mp hi) x y

theorem pixel (x y : Nat) : pixel q x y = pixel q' x y := by
  cases hsel : Machine.selectedSprite q x y with
  | none => rw [pixel_of_none q hsel, pixel_of_none q' ((h.selectedSprite x y).symm.trans hsel), h.bgColour]
  | some i =>
    have hi : i < 64 := List.mem_range.mp (List.mem_of_find?_eq_some hsel)
    rw [pixel_of_some q hsel, pixel_of_some q' ((h.selectedSprite x y).symm.trans hsel), h.spriteAt hi, h.bgOpaque,
      h.bgColour, h.spriteColour hi]

theorem frameOf : frameOf q = frameOf q' := by
  rw [Machine.frameOf, Machine.frameOf]
  simp only [h.pixel]

theorem spriteZeroHit : spriteZeroHit q = spriteZeroHit q' := by
  rw [Bool.eq_iff_iff, spriteZeroHit_iff, spriteZeroHit_iff, h.spriteAt (by decide), h.spriteIndex, h.bgOpaque]

end ReadAlike

/-- R72: PPU memory is read modulo 16384. -/
theorem ppuRead_congr {m m' : Memory} (h : ∀ n, n < 16384 → memGet m n = memGet m' n) : ppuRead m = ppuRead m' :=
  funext fun a => h (ppuIndex a) (ppuIndex_lt a)

/-- Settles O57: the two snapshots read alike. -/
theorem pictureDependsOnTheSnapshotAlone : Obligations.PictureDependsOnTheSnapshotAlone := by
  intro s t hppu hoam hsprPt hbgPt
  have halike : ReadAlike (snapshotOf s) (snapshotOf t) := ⟨ppuRead_congr hppu, hoam, hbgPt, hsprPt⟩
  exact ⟨halike.frameOf, halike.spriteZeroHit⟩

end Sys2Proof.Machine
end
